-- ==== Sys2Proof/Word.lean ====
section
/-!
DEFINITION. The plain types of the FQ-2448 model: the wire words of its two lines, and the index
types of its tables (00_scope.md 5.2 to 5.6; 11_formats_and_pins.md R166). Nothing here computes.

A number that the manual treats as a count, a time or a position is a `Nat` held in its range by the
operation that writes it; a value as it comes over a line is a bit vector of the line's width.
-/

namespace Sys2Proof

/-- One byte of either line (R166). -/
abbrev Byte := BitVec 8

/-- A two-byte field of either line, sent most significant byte first (R166). -/
abbrev Half := BitVec 16

/-- A four-byte field of either line, sent most significant byte first (R166). -/
abbrev Quad := BitVec 32

/-- A directory slot, 0 to 511 (R1). -/
abbrev TakeIx := Fin 512

/-- A slot's generation, 0 to 127, wrapping (R3). -/
abbrev Gen := Fin 128

/-- A session record, 0 to 31 (R25). -/
abbrev SessionIx := Fin 32

/-- A recorder console, counted from 0: console `n` of the manual (drop `n`) is `n - 1` here. -/
abbrev ConsoleIx := Fin 24

/-- A typist record, counted from 0: typist `t` of the manual (drop `t + 24`) is `t - 1` here. -/
abbrev TypistIx := Fin 48

/-- A drop of the drop link, counted from 0: drop `d` of the manual is `d - 1` here. -/
abbrev DropIx := Fin 72

/-- A mark identifier: the mark's index in the cue pool, 0 to 4095 (R42). -/
abbrev MarkId := Fin 4096

/-- A level or a clearance, 0 OPEN to 3 SEALED-JUVENILE (00_scope.md 5.6). -/
abbrev Level := Fin 4

/-- The characters of a label as they were sent, one byte each (R44, R166). -/
abbrev Text := List Byte

end Sys2Proof
end

