-- ==== Sys2Proof/Syntax.lean ====
section
/-!
DEFINITION. The commands of the FQ-2448: one constructor for each row of spec/opcode_table.json.

The rows are the part's steps "each whole and indivisible" (95_what_each_step_holds.md). They are of
four kinds: steps of the part's own clocks and blocks (RESET to PLACEMENT_PASS), steps of the drop
link (POLL_ROUND to GOOD_REPLY), requests a station sends in a reply (OPEN to DECLINE), and
transactions and requests of the supervisor port (REQUEST_FRAME to CLEAR_COUNTS).

An operand stands as it comes over its line: a handle is its 16 bits, a level its byte, and so on; it
is brought into range by the command's own rule and never before. A station request also names the
station that sends it. An operand that its rule calls optional is an `Option`.
-/

namespace Sys2Proof

/-- Who sends a request that more than one kind of asker may send (RESOLVE, LIST, PROBE). -/
inductive Asker where
  | console (c : ConsoleIx)
  | typist (t : TypistIx)
  | host
deriving DecidableEq, Repr

/-- What puts the part into reset: power, or the RESET pin held low for so many microseconds (R169). -/
inductive ResetCause where
  | powerOn
  | pin (lowMicros : Nat)
deriving DecidableEq, Repr

/-- The commands, in the order of spec/opcode_table.json. -/
inductive Instr where
  /-- RESET (R169). -/
  | reset (cause : ResetCause)
  /-- OFFICE_TICK (R87). -/
  | officeTick
  /-- OFFER_TIMER_EXPIRY (R112): the offer timers that the tick has lowered to 0, together. -/
  | offerTimerExpiry
  /-- TYPIST_GRACE_EXPIRY (R83): the typist grace timers that the tick has lowered to 0, together. -/
  | typistGraceExpiry
  /-- CONSOLE_GRACE_EXPIRY (R38): the console grace timers that the tick has lowered to 0, together. -/
  | consoleGraceExpiry
  /-- DRIFT_WINDOW_CHECK (R40): the drift windows that have run 60 seconds. -/
  | driftWindowCheck
  /-- AUDIT_COUNTDOWN_EXPIRY (R142). -/
  | auditCountdownExpiry
  /-- PLACEMENT_PASS (R106). -/
  | placementPass
  /-- POLL_ROUND (R148). -/
  | pollRound
  /-- POLL_TRANSACTION (R149): the poll frame of the drop the round stands at. -/
  | pollTransaction
  /-- REPLY_MISS (R150): the reply timeout runs out with no byte received. -/
  | replyMiss
  /-- GOOD_REPLY (R151): the bytes received up to the closing gap; judged by R149 and R167. -/
  | goodReply (frame : List Byte)
  /-- OPEN (R32). -/
  | openTake (c : ConsoleIx)
  /-- CLOSE (R33). -/
  | closeTake (c : ConsoleIx) (finalLength : Half)
  /-- ROLL (R34). -/
  | rollTake (c : ConsoleIx) (finalLength : Half)
  /-- MARK (R48). -/
  | markTake (c : ConsoleIx) (handle : Half) (kind : Byte) (offset : Half) (speaker : Option Byte)
      (label : Option Text)
  /-- SEAL (R49). -/
  | sealTake (c : ConsoleIx) (level : Byte) (label : Option Text)
  /-- UNSEAL (R50). -/
  | unsealTake (c : ConsoleIx) (label : Option Text)
  /-- RESOLVE (R57), from a console or the host. -/
  | resolveQuery (asker : Asker) (handle : Half) (mark : Half) (label : Option Text)
  /-- LIST (R59), from a console or a typist. -/
  | listMarks (asker : Asker) (handle : Half) (start : Byte) (level : Option Byte)
  /-- LOCATE (R123). -/
  | locateMark (c : ConsoleIx) (kind : Option Byte) (speaker : Option Byte) (before : Option Quad)
      (level : Option Byte) (bookmark : Bool)
  /-- RUSH (R128). -/
  | rushTake (c : ConsoleIx) (handle : Half)
  /-- PROBE (R137), from a console, a typist or the host. -/
  | probeTake (asker : Asker) (handle : Half) (level : Option Byte)
  /-- SIGN-ON (R65). -/
  | signOn (t : TypistIx)
  /-- SIGN-OFF (R66). -/
  | signOff (t : TypistIx)
  /-- CHECKPOINT (R75). -/
  | checkpoint (t : TypistIx) (handle : Half) (typedTo : Half)
  /-- QUERY (R76). -/
  | raiseQuery (t : TypistIx) (handle : Half) (offset : Option Half) (speaker : Option Byte)
      (label : Option Text)
  /-- DONE (R77). -/
  | doneTake (t : TypistIx) (handle : Half)
  /-- RELEASE (R78). -/
  | releaseTake (t : TypistIx) (handle : Half)
  /-- ACCEPT (R110, R119). -/
  | acceptOffer (t : TypistIx) (handle : Half)
  /-- DECLINE (R111). -/
  | declineOffer (t : TypistIx) (handle : Half)
  /-- REQUEST_FRAME (R158): the bytes clocked in while CS was low. -/
  | requestFrame (bytes : List Byte)
  /-- SPI_READ (R159): so many bytes of FFh are clocked in, and as many shifted out. -/
  | spiRead (count : Nat)
  /-- SET-CLOCK (R88). -/
  | setClock (value : Option Quad)
  /-- SET-PARAM (R161). -/
  | setParam (number : Byte) (value : Quad)
  /-- READ-PARAM (R162). -/
  | readParam (number : Byte)
  /-- ENABLE-DROP (R146). -/
  | enableDrop (drop : Byte)
  /-- DISABLE-DROP (R147). -/
  | disableDrop (drop : Byte)
  /-- READ-DROP (R156). -/
  | readDrop (drop : Byte)
  /-- SET-TYPIST (R85, R139). -/
  | setTypist (number : Byte) (clearance : Option Byte) (quals : Option Byte) (ratio : Option Byte)
  /-- READ-TYPIST (R86). -/
  | readTypist (number : Byte)
  /-- SET-CONSOLE (R138). -/
  | setConsole (number : Byte) (clearance : Byte)
  /-- LOCK-CLEARANCE (R141). -/
  | lockClearance
  /-- OPEN-SESSION (R27). -/
  | openSession (id : Half) (console : Byte) (level : Byte) (cls : Byte) (allowance : Quad)
      (quals : Byte)
  /-- END-SESSION (R28). -/
  | endSession (id : Half)
  /-- READ-SESSION (R29). -/
  | readSession (id : Half)
  /-- READ-TAKE (R19). -/
  | readTake (handle : Half)
  /-- SCAN-TAKES (R20). -/
  | scanTakes (start : Half) (states : Byte) (statuses : Byte)
  /-- SET-DEADLINE (R91). -/
  | setDeadline (handle : Half) (deadline : Quad)
  /-- SET-CLASS (R92, R128). -/
  | setClass (handle : Half) (cls : Byte)
  /-- RELEVEL (R140). -/
  | relevel (handle : Half) (level : Byte)
  /-- WITHDRAW (R21). -/
  | withdrawTake (handle : Half)
  /-- REQUEUE (R22). -/
  | requeueTake (handle : Half) (typedTo : Half)
  /-- CERTIFY (R23). -/
  | certifyTake (handle : Half)
  /-- RETIRE (R24). -/
  | retireTake (handle : Half)
  /-- READ-MARKS (R60). -/
  | readMarks (handle : Half) (start : Byte)
  /-- READ-EVENTS (R164). -/
  | readEvents
  /-- CLEAR-EVENTS (R164). -/
  | clearEvents (selection : Half)
  /-- SET-MASK (R163). -/
  | setMask (masks : Half)
  /-- CLEAR-COUNTS (R165). -/
  | clearCounts
deriving DecidableEq, Repr

end Sys2Proof
end

