-- ==== Sys2Proof/Decode.lean ====
section
/-!
DEFINITION. Reading a request from the bytes that a line carries (R152, R158, R166, R168), and the
host's question `decodeTableWord`.

No row of spec/opcode_table.json gives bits, so no word of the table spells a command. What the part
does decode is the request inside a reply frame and the request frame of the supervisor port: a code,
then the parameters in the order of the request's rule.
-/

namespace Sys2Proof

/-- The command that a word spells by the table's bits: none, since no row of the table gives bits. -/
def decodeTableWord (_nbits _w : Nat) : Option Instr := none

namespace Decode

/-! ## Fields (R166) -/

/-- One byte. -/
def byte : List Byte → Option (Byte × List Byte)
  | b :: rest => some (b, rest)
  | [] => none

/-- Two bytes, most significant first. -/
def half : List Byte → Option (Half × List Byte)
  | a :: b :: rest => some (a ++ b, rest)
  | _ => none

/-- Four bytes, most significant first. -/
def quad : List Byte → Option (Quad × List Byte)
  | a :: b :: c :: d :: rest => some (a ++ b ++ c ++ d, rest)
  | _ => none

/-- A label: a length byte and so many characters. -/
def label : List Byte → Option (Text × List Byte)
  | n :: rest => if n.toNat ≤ rest.length then some (rest.take n.toNat, rest.drop n.toNat) else none
  | [] => none

/-- A yes or no byte; any other value is malformed. -/
def flag : List Byte → Option (Bool × List Byte)
  | b :: rest => if b = 0 then some (false, rest) else if b = 1 then some (true, rest) else none
  | [] => none

/-- An optional field: a presence byte, then the value when it is present; any other presence byte is
malformed. -/
def optional {α : Type} (value : List Byte → Option (α × List Byte)) :
    List Byte → Option (Option α × List Byte)
  | p :: rest =>
    if p = 0 then some (none, rest)
    else if p = 1 then (value rest).map (fun r => (some r.1, r.2))
    else none
  | [] => none

/-- A parameter part must hold its parameters and nothing after them. -/
def ended (i : Instr) : List Byte → Option Instr
  | [] => some i
  | _ :: _ => none

/-! ## Requests -/

/-- What a code with its parameter part is. -/
inductive Parsed where
  /-- the code is not defined for the sender -/
  | undefined
  /-- the code is defined and the parameter part does not fit it -/
  | malformed
  /-- a request -/
  | request (i : Instr)
deriving DecidableEq, Repr

/-- A request, or malformed parameters. -/
def Parsed.ofOption : Option Instr → Parsed
  | none => .malformed
  | some i => .request i

/-- The parameters of RESOLVE (R57). -/
def resolveOf (a : Asker) (ps : List Byte) : Option Instr := do
  let (h, ps) ← half ps
  let (m, ps) ← half ps
  let (l, ps) ← optional label ps
  ended (.resolveQuery a h m l) ps

/-- The parameters of LIST (R59). -/
def listOf (a : Asker) (ps : List Byte) : Option Instr := do
  let (h, ps) ← half ps
  let (p, ps) ← byte ps
  let (q, ps) ← optional byte ps
  ended (.listMarks a h p q) ps

/-- The parameters of PROBE (R137). -/
def probeOf (a : Asker) (ps : List Byte) : Option Instr := do
  let (h, ps) ← half ps
  let (q, ps) ← optional byte ps
  ended (.probeTake a h q) ps

/-- The parameters of a request that carries a handle alone. -/
def handleOf (f : Half → Instr) (ps : List Byte) : Option Instr := do
  let (h, ps) ← half ps
  ended (f h) ps

/-- The parameters of a request that carries one byte. -/
def byteOf (f : Byte → Instr) (ps : List Byte) : Option Instr := do
  let (b, ps) ← byte ps
  ended (f b) ps

/-- The parameters of a request that carries a handle and a byte. -/
def handleByteOf (f : Half → Byte → Instr) (ps : List Byte) : Option Instr := do
  let (h, ps) ← half ps
  let (b, ps) ← byte ps
  ended (f h b) ps

/-- The parameters of a request that carries a handle and two bytes. -/
def handleHalfOf (f : Half → Half → Instr) (ps : List Byte) : Option Instr := do
  let (h, ps) ← half ps
  let (v, ps) ← half ps
  ended (f h v) ps

/-- The parameters of MARK (R48). -/
def markOf (c : ConsoleIx) (ps : List Byte) : Option Instr := do
  let (h, ps) ← half ps
  let (k, ps) ← byte ps
  let (o, ps) ← half ps
  let (sp, ps) ← optional byte ps
  let (l, ps) ← optional label ps
  ended (.markTake c h k o sp l) ps

/-- The parameters of SEAL (R49). -/
def sealOf (c : ConsoleIx) (ps : List Byte) : Option Instr := do
  let (v, ps) ← byte ps
  let (l, ps) ← optional label ps
  ended (.sealTake c v l) ps

/-- The parameters of UNSEAL (R50). -/
def unsealOf (c : ConsoleIx) (ps : List Byte) : Option Instr := do
  let (l, ps) ← optional label ps
  ended (.unsealTake c l) ps

/-- The parameters of LOCATE: five parts, each of which may be absent (R123). -/
def locateOf (c : ConsoleIx) (ps : List Byte) : Option Instr := do
  let (k, ps) ← optional byte ps
  let (sp, ps) ← optional byte ps
  let (b, ps) ← optional quad ps
  let (q, ps) ← optional byte ps
  let (m, ps) ← optional flag ps
  ended (.locateMark c k sp b q (m.getD false)) ps

/-- The parameters of QUERY (R76). -/
def queryOf (t : TypistIx) (ps : List Byte) : Option Instr := do
  let (h, ps) ← half ps
  let (o, ps) ← optional half ps
  let (sp, ps) ← optional byte ps
  let (l, ps) ← optional label ps
  ended (.raiseQuery t h o sp l) ps

/-- A console's request: codes 01h to 0Bh in the order of R152. -/
def consoleRequest (c : ConsoleIx) (code : Nat) (ps : List Byte) : Parsed :=
  match code with
  | 0x01 => .ofOption (ended (.openTake c) ps)
  | 0x02 => .ofOption (handleOf (.rollTake c) ps)
  | 0x03 => .ofOption (handleOf (.closeTake c) ps)
  | 0x04 => .ofOption (markOf c ps)
  | 0x05 => .ofOption (sealOf c ps)
  | 0x06 => .ofOption (unsealOf c ps)
  | 0x07 => .ofOption (resolveOf (.console c) ps)
  | 0x08 => .ofOption (listOf (.console c) ps)
  | 0x09 => .ofOption (locateOf c ps)
  | 0x0A => .ofOption (handleOf (.rushTake c) ps)
  | 0x0B => .ofOption (probeOf (.console c) ps)
  | _ => .undefined

/-- A typist's request: codes 21h to 2Ah in the order of R152. -/
def typistRequest (t : TypistIx) (code : Nat) (ps : List Byte) : Parsed :=
  match code with
  | 0x21 => .ofOption (ended (.signOn t) ps)
  | 0x22 => .ofOption (ended (.signOff t) ps)
  | 0x23 => .ofOption (handleHalfOf (.checkpoint t) ps)
  | 0x24 => .ofOption (queryOf t ps)
  | 0x25 => .ofOption (handleOf (.doneTake t) ps)
  | 0x26 => .ofOption (handleOf (.releaseTake t) ps)
  | 0x27 => .ofOption (listOf (.typist t) ps)
  | 0x28 => .ofOption (handleOf (.acceptOffer t) ps)
  | 0x29 => .ofOption (handleOf (.declineOffer t) ps)
  | 0x2A => .ofOption (probeOf (.typist t) ps)
  | _ => .undefined

/-- The parameters of SET-PARAM (R161). -/
def setParamOf (ps : List Byte) : Option Instr := do
  let (n, ps) ← byte ps
  let (v, ps) ← quad ps
  ended (.setParam n v) ps

/-- The parameters of SET-TYPIST (R85). -/
def setTypistOf (ps : List Byte) : Option Instr := do
  let (n, ps) ← byte ps
  let (c, ps) ← optional byte ps
  let (q, ps) ← optional byte ps
  let (r, ps) ← optional byte ps
  ended (.setTypist n c q r) ps

/-- The parameters of OPEN-SESSION (R27). -/
def openSessionOf (ps : List Byte) : Option Instr := do
  let (i, ps) ← half ps
  let (n, ps) ← byte ps
  let (v, ps) ← byte ps
  let (k, ps) ← byte ps
  let (a, ps) ← quad ps
  let (q, ps) ← byte ps
  ended (.openSession i n v k a q) ps

/-- The parameters of SCAN-TAKES (R20). -/
def scanOf (ps : List Byte) : Option Instr := do
  let (i, ps) ← half ps
  let (st, ps) ← byte ps
  let (ss, ps) ← byte ps
  ended (.scanTakes i st ss) ps

/-- The parameters of SET-CLOCK (R88). -/
def setClockOf (ps : List Byte) : Option Instr := do
  let (v, ps) ← optional quad ps
  ended (.setClock v) ps

/-- The parameters of SET-CONSOLE (R138). -/
def setConsoleOf (ps : List Byte) : Option Instr := do
  let (n, ps) ← byte ps
  let (v, ps) ← byte ps
  ended (.setConsole n v) ps

/-- The parameters of SET-DEADLINE (R91). -/
def setDeadlineOf (ps : List Byte) : Option Instr := do
  let (h, ps) ← half ps
  let (d, ps) ← quad ps
  ended (.setDeadline h d) ps

/-- A host request: codes 01h to 1Dh in the order of the summary 10.2 (R166). -/
def hostRequest (code : Nat) (ps : List Byte) : Parsed :=
  match code with
  | 0x01 => .ofOption (setClockOf ps)
  | 0x02 => .ofOption (setParamOf ps)
  | 0x03 => .ofOption (byteOf .readParam ps)
  | 0x04 => .ofOption (byteOf .enableDrop ps)
  | 0x05 => .ofOption (byteOf .disableDrop ps)
  | 0x06 => .ofOption (byteOf .readDrop ps)
  | 0x07 => .ofOption (setTypistOf ps)
  | 0x08 => .ofOption (byteOf .readTypist ps)
  | 0x09 => .ofOption (setConsoleOf ps)
  | 0x0A => .ofOption (ended .lockClearance ps)
  | 0x0B => .ofOption (openSessionOf ps)
  | 0x0C => .ofOption (handleOf .endSession ps)
  | 0x0D => .ofOption (handleOf .readSession ps)
  | 0x0E => .ofOption (handleOf .readTake ps)
  | 0x0F => .ofOption (scanOf ps)
  | 0x10 => .ofOption (setDeadlineOf ps)
  | 0x11 => .ofOption (handleByteOf .setClass ps)
  | 0x12 => .ofOption (handleByteOf .relevel ps)
  | 0x13 => .ofOption (handleOf .withdrawTake ps)
  | 0x14 => .ofOption (handleHalfOf .requeueTake ps)
  | 0x15 => .ofOption (handleOf .certifyTake ps)
  | 0x16 => .ofOption (handleOf .retireTake ps)
  | 0x17 => .ofOption (probeOf .host ps)
  | 0x18 => .ofOption (handleByteOf .readMarks ps)
  | 0x19 => .ofOption (resolveOf .host ps)
  | 0x1A => .ofOption (ended .readEvents ps)
  | 0x1B => .ofOption (handleOf .clearEvents ps)
  | 0x1C => .ofOption (handleOf .setMask ps)
  | 0x1D => .ofOption (ended .clearCounts ps)
  | _ => .undefined

end Decode

end Sys2Proof
end

