-- ==== Sys2Proof/Config.lean ====
section
/-!
DEFINITION. The fixed sizes and limits of the FQ-2448, each with the rule that states it.

The manual leaves no value of the part free, so nothing here is opaque. What the host may change at run time
is the parameter table (R161), which is state and stands in `Machine/State.lean`.
-/

namespace Sys2Proof.Config

/-- The top of office time, of every deadline and of every sum of seconds (R87, R89). -/
def topSecond : Nat := 4294967295

/-- The number of values of the hand-off queue's serial counter, which wraps (R105). -/
def serialValues : Nat := 4294967296

/-- One hour of audio in tenths: the longest take (00_scope.md 5.2; R35). -/
def topTenths : Nat := 36000

/-- The records of the cue pool (R42). -/
def poolSize : Nat := 4096

/-- The last free records, kept for the kinds that bound stretches of a take (R43). -/
def reserve : Nat := 64

/-- The most marks one take's list holds (R43, R45). -/
def listCapacity : Nat := 255

/-- The top of every one-byte count: marks lost, notes pending, cues dropped, offers missed (R43, R58,
R72, R112). -/
def topCount : Nat := 255

/-- The top of a drop's link error count and of a context's work seconds (R150, R73). -/
def topWord : Nat := 65535

/-- The takes one session may open (R26). -/
def sessionTakes : Nat := 64

/-- The most an allowance may be, in seconds (R27). -/
def topAllowance : Nat := 604800

/-- The most messages a drop's outbound queue holds (R153). -/
def outboundCapacity : Nat := 4

/-- The most typists an exclusion list holds (R113). -/
def exclusionCapacity : Nat := 4

/-- The advance, in tenths, from which a checkpoint takes a ratio sample (R100). -/
def sampleAdvance : Nat := 300

/-- The tenths of audio times sixteenths of ratio that make one second of typing (5.1; R93). -/
def workUnit : Nat := 160

/-- The lowest and highest ratio (R100, R102). -/
def lowRatio : Nat := 16

/-- See `lowRatio`. -/
def topRatio : Nat := 255

/-- The office seconds a drift window runs (R40). -/
def driftSeconds : Nat := 60

/-- The marks one LIST answers at most (R59). -/
def listAnswer : Nat := 4

/-- The marks one READ-MARKS answers at most (R60). -/
def readAnswer : Nat := 8

/-- The characters of a label that are kept (R44). -/
def labelKept : Nat := 8

/-- The miss count at which one more miss makes a drop ABSENT (R150). -/
def lastMiss : Nat := 2

/-- The shortest RESET pulse, in microseconds, that lies within the operating conditions (R169). -/
def shortestReset : Nat := 10

end Sys2Proof.Config
end

