-- ==== Sys2Proof/Machine/State.lean ====
section
/-!
DEFINITION. The state of the FQ-2448: every record, table, timer, flag and queue that the manual gives
the part, as plain data, and the value each takes after reset.

The tables of the manual that list the fields are cited at each structure. Two fields of `State` are
the model's own: `pending`, the commands that wait to be taken, and `passDue`, which says that a
placement pass has been triggered and not yet taken (R106; log entry 2).
-/

namespace Sys2Proof.Machine

/-! ## Names -/

/-- The states of a take (1.3). `opened` is the manual's OPEN. -/
inductive TakeState where
  | free | opened | closed | offered | typing | parked | returned | certified
deriving DecidableEq, Repr

/-- The classes of a take; an earlier one is more urgent (00_scope.md 5.6). -/
inductive TakeClass where
  | rush | expedited | daily | ordinary
deriving DecidableEq, Repr

/-- The status of a take (R96). `noStatus` is the manual's NONE. -/
inductive TakeStatus where
  | onTime | atRisk | late | noStatus
deriving DecidableEq, Repr

/-- The states of a session record (2.1). -/
inductive SessionState where
  | free | bound | recording | ended
deriving DecidableEq, Repr

/-- The states of a typist (4.2). -/
inductive TypistState where
  | off | idle | offered | working | switching
deriving DecidableEq, Repr

/-- The states of a drop (9.1). -/
inductive DropState where
  | disabled | present | absent
deriving DecidableEq, Repr

/-- A console's drift state (2.1). -/
inductive DriftState where
  | inStep | drift
deriving DecidableEq, Repr

/-- The state of a QUERY mark (R44). `raised` is the manual's OPEN. -/
inductive QueryState where
  | raised | resolved
deriving DecidableEq, Repr

/-- The kind of message that put a pending take to a typist (4.1). -/
inductive PendingKind where
  | offer | switch
deriving DecidableEq, Repr

/-- The eleven kinds of mark (3.2). -/
inductive MarkKind where
  | speaker | exhibit | objection | ruling | sealStart | sealEnd | offRecordStart | offRecordEnd
  | query | note | bookmark
deriving DecidableEq, Repr

/-- The event flags 1 to 14, in the order of the table of 10.4. -/
inductive Event where
  | returned | atRisk | late | rushWaiting | dropAbsent | typistLost | takeCutShort | consoleDrift
  | auditFail | markLost | queryRaised | overlong | directoryFull | supervisorOverrun
deriving DecidableEq, Repr

/-- The answer statuses (00_scope.md 5.4). -/
inductive AnswerStatus where
  | ok | denied | wrongState | stale | full | guarded | expired | noSession | unknown | notFound
  | queriesOpen
deriving DecidableEq, Repr

/-! ## Small records -/

/-- A qualification set: any subset of the four (00_scope.md 5.6). -/
structure Quals where
  interp : Bool
  expert : Bool
  multiParty : Bool
  capital : Bool
deriving DecidableEq, Repr

/-- The flags of a take (1.1, R16). -/
structure TakeFlags where
  timingSuspect : Bool
  cutShort : Bool
  overlong : Bool
  sealMarkLost : Bool
deriving DecidableEq, Repr

/-- A take handle: a slot's index with a generation (00_scope.md 5.3). -/
structure Handle where
  index : TakeIx
  gen : Gen
deriving DecidableEq, Repr

/-- Where a mark came from (3.2). -/
inductive Source where
  | console (c : ConsoleIx)
  | typist (t : TypistIx)
  | supervisor
  | carry
deriving DecidableEq, Repr

/-- A mark record in use (3.2). The owning take is the one whose list holds it. -/
structure Mark where
  id : MarkId
  offset : Nat
  kind : MarkKind
  speaker : Option Nat
  label : Option Text
  level : Level
  source : Source
  query : Option QueryState
  unverified : Bool
deriving DecidableEq, Repr

/-- The exchange package of a parked take (1.1, R9). -/
structure Package where
  position : Nat
  cursor : Nat
  work : Nat
  base : Nat
  notes : Nat
deriving DecidableEq, Repr

/-- The working context of a typist on its current take (4.3). -/
structure Context where
  position : Nat
  cursor : Nat
  work : Nat
  base : Nat
  lastActivity : Nat
  notes : Nat
deriving DecidableEq, Repr

/-! ## The directory and the cue table -/

/-- A take record (1.1). The marks of its list are the pool records that belong to it, in list order
(R42, R45). -/
structure Take where
  gen : Gen
  state : TakeState
  session : Option SessionIx
  sequence : Option Nat
  sessionStart : Option Nat
  console : Option ConsoleIx
  length : Nat
  typedTo : Nat
  level : Level
  cls : Option TakeClass
  rushPending : Bool
  quals : Quals
  deadline : Option Nat
  latestStart : Option Nat
  status : TakeStatus
  serial : Option Nat
  typist : Option TypistIx
  exclusion : List TypistIx
  marks : List Mark
  openSpan : Option Level
  openQueries : Nat
  marksLost : Nat
  flags : TakeFlags
  package : Option Package
deriving DecidableEq, Repr

/-! ## Sessions and consoles -/

/-- A session record (2.1). -/
structure Session where
  id : Option Half
  console : Option ConsoleIx
  state : SessionState
  level : Option Level
  cls : Option TakeClass
  allowance : Option Nat
  quals : Quals
  takes : List TakeIx
  openTake : Option TakeIx
  sealCarry : Option Level
  nextSequence : Option Nat
  sessionEnd : Option Nat
deriving DecidableEq, Repr

/-- A running drift window: its start second and start code (2.1). -/
structure DriftWindow where
  startSecond : Nat
  startCode : Nat
deriving DecidableEq, Repr

/-- The console fields of drops 1 to 24 (2.1). `grace` is the seconds remaining, absent when stopped. -/
structure Console where
  bound : Option SessionIx
  drift : DriftState
  window : Option DriftWindow
  lastCode : Option Nat
  grace : Option Nat
deriving DecidableEq, Repr

/-! ## Typists -/

/-- A pending take with the kind of message that put it (4.1). -/
structure Pending where
  take : TakeIx
  kind : PendingKind
deriving DecidableEq, Repr

/-- A typist record (4.1). A timer is the seconds remaining, absent when stopped. -/
structure Typist where
  clearance : Level
  quals : Quals
  ratio : Nat
  state : TypistState
  current : Option TakeIx
  parked : Option TakeIx
  pending : Option Pending
  offerTimer : Option Nat
  away : Bool
  grace : Option Nat
  idleSince : Option Nat
  context : Option Context
  cuesDropped : Nat
  offersMissed : Nat
deriving DecidableEq, Repr

/-! ## Messages and answers -/

/-- A field of an answer or a message, one constructor for each way that R166 encodes one. -/
inductive Field where
  /-- a take handle, 2 bytes -/
  | handle (h : Handle)
  /-- a one-byte number: level, class, ratio, speaker code, drop, typist, sequence, and the one-byte
  counts, positions and codes of R166 -/
  | small (n : Nat)
  /-- a two-byte number: tenths, mark identifier, session id, index, counts, timers, sums, work -/
  | half (n : Nat)
  /-- a four-byte number: times, deadlines, allowances, parameter values, serials -/
  | quad (n : Nat)
  /-- a yes or no byte -/
  | flag (b : Bool)
  /-- a label: its length byte and its characters -/
  | label (t : Text)
  /-- the presence byte of an absent optional field -/
  | absent
  /-- the presence byte of an optional field whose value follows -/
  | present
deriving DecidableEq, Repr

/-- An answer on either line: the request code answered, the status, the indications of R166 and the
result fields in the order of the request's rule. -/
structure Answer where
  code : Nat
  status : AnswerStatus
  clamped : Bool
  own : Bool
  asked : Bool
  fields : List Field
deriving DecidableEq, Repr

/-- What an OFFER message carries (R109). -/
structure OfferFields where
  handle : Handle
  level : Level
  cls : TakeClass
  quals : Quals
  length : Nat
  typedTo : Nat
  deadline : Nat
  latestStart : Nat
  status : TakeStatus
  timeout : Nat
deriving DecidableEq, Repr

/-- What a CUE message carries (R72). -/
structure CueFields where
  handle : Handle
  position : Nat
  mark : Mark
deriving DecidableEq, Repr

/-- A message of a drop's outbound queue (9.5). -/
inductive Message where
  | answer (a : Answer)
  | offer (o : OfferFields)
  | switch (o : OfferFields) (parks : Handle)
  | withdraw (takes : List Handle)
  | resume (take : Handle) (position : Nat) (notes : Nat)
  | cue (c : CueFields)
deriving DecidableEq, Repr

/-- A drop table entry without its console fields (9.1). -/
structure Drop where
  state : DropState
  misses : Nat
  rollCall : Option Nat
  out : List Message
  linkErrors : Nat
deriving DecidableEq, Repr

/-- A poll transaction under way: the drop polled and the reply timeout in force when its frame was
sent (R149). -/
structure InFlight where
  drop : DropIx
  timeout : Nat
deriving DecidableEq, Repr

/-! ## The arbiter and the supervisor port -/

/-- An entry of the hand-off queue (6.1). -/
structure QueueEntry where
  take : TakeIx
  cls : TakeClass
  start : Nat
  serial : Nat
  rushWaiting : Bool
deriving DecidableEq, Repr

/-- The parameters 1 to 12 (10.3). -/
structure Params where
  officeRatio : Nat
  margin : Nat
  offerTimeout : Nat
  typistGrace : Nat
  consoleGrace : Nat
  rushAllowance : Nat
  idleLimit : Nat
  driftPerMille : Nat
  auditInterval : Nat
  auditExpected : Nat
  replyTimeout : Nat
  rollCallDivisor : Nat
deriving DecidableEq, Repr

/-- The request slot with the response buffer (10.1). READY is high exactly in `responseWaiting`. -/
inductive Slot where
  | empty
  | inProgress (request : Instr)
  | responseWaiting (response : Answer)
deriving DecidableEq, Repr

/-! ## The whole part -/

/-- The state of the FQ-2448, block by block (00_scope.md 3). -/
@[ext]
structure State where
  /-- office clock (R87) -/
  officeTime : Nat
  /-- directory and cue table (R1, R42) -/
  takes : Vector Take 512
  /-- session table (R25) -/
  sessions : Vector Session 32
  /-- console fields of drops 1 to 24 (R25) -/
  consoles : Vector Console 24
  /-- roster (R63) -/
  typists : Vector Typist 48
  /-- drop table (R145) -/
  drops : Vector Drop 72
  /-- clearance of every drop (R134) -/
  clearances : Vector Level 72
  /-- clearance lock (R141) -/
  clearanceLock : Bool
  /-- audit failure standing (R143) -/
  auditFailure : Bool
  /-- audit countdown, absent when stopped (R142) -/
  auditCountdown : Option Nat
  /-- last audit sum (R142) -/
  lastAuditSum : Nat
  /-- hand-off queue (R103) -/
  queue : List QueueEntry
  /-- queue serial counter (R105) -/
  serialCounter : Nat
  /-- parameter table (R161) -/
  params : Params
  /-- event flags; flag k is bit k - 1 (R163, R166) -/
  events : BitVec 14
  /-- event masks; a 1 disables the flag (R163) -/
  masks : BitVec 14
  /-- request slot and response buffer (R157) -/
  slot : Slot
  /-- where a running polling round stands: the drops below this number (counted from 0) have been
  passed (R148); absent while no round runs -/
  round : Option Nat
  /-- the poll transaction under way (R149) -/
  inFlight : Option InFlight
  /-- pin LTX: the poll frame sent last (R149, 11.4) -/
  ltx : List Byte
  /-- pin MISO: the bytes shifted out in the last transaction (R168) -/
  miso : List Byte
  /-- the model's own: a placement pass has been triggered and not yet taken (R106) -/
  passDue : Bool
  /-- the model's own: the commands that wait, first in first out -/
  pending : List Instr
deriving DecidableEq, Repr

/-! ## Why a step can stop -/

/-- Why the machine stops. -/
inductive Fault where
  /-- Raised by RESET alone: a RESET pulse shorter than 10 microseconds "lies outside the part's
  operating conditions and is not to be applied", and the manual gives it no effect (R169; log entry
  1). Safe: nothing is claimed of what the part does then. -/
  | resetPulseTooShort
deriving DecidableEq, Repr

/-- Why a command has no meaning. -/
inductive Refusal where
  /-- An arm of `exec` that has no meaning yet, by its row's mnemonic. Raised by no arm of this model.
  Safe. -/
  | notModelled (mnemonic : String)
deriving DecidableEq, Repr

/-! ## Reset values -/

/-- No qualification. -/
def Quals.empty : Quals := ⟨false, false, false, false⟩

/-- No flag. -/
def TakeFlags.empty : TakeFlags := ⟨false, false, false, false⟩

/-- A FREE slot of the given generation (table 1.1, R1). -/
def Take.freeAt (g : Gen) : Take where
  gen := g
  state := .free
  session := none
  sequence := none
  sessionStart := none
  console := none
  length := 0
  typedTo := 0
  level := 0
  cls := none
  rushPending := false
  quals := .empty
  deadline := none
  latestStart := none
  status := .noStatus
  serial := none
  typist := none
  exclusion := []
  marks := []
  openSpan := none
  openQueries := 0
  marksLost := 0
  flags := .empty
  package := none

/-- A FREE session record (2.1, R25). -/
def Session.freed : Session where
  id := none
  console := none
  state := .free
  level := none
  cls := none
  allowance := none
  quals := .empty
  takes := []
  openTake := none
  sealCarry := none
  nextSequence := none
  sessionEnd := none

/-- A console's fields after reset (2.1, R25). -/
def Console.reset : Console where
  bound := none
  drift := .inStep
  window := none
  lastCode := none
  grace := none

/-- A typist record after reset (4.1, R63). -/
def Typist.reset : Typist where
  clearance := 0
  quals := .empty
  ratio := 64
  state := .off
  current := none
  parked := none
  pending := none
  offerTimer := none
  away := false
  grace := none
  idleSince := none
  context := none
  cuesDropped := 0
  offersMissed := 0

/-- A drop after reset (9.1, R145). -/
def Drop.reset : Drop where
  state := .disabled
  misses := 0
  rollCall := none
  out := []
  linkErrors := 0

/-- The parameters' defaults (10.3, R161). -/
def Params.reset : Params where
  officeRatio := 64
  margin := 900
  offerTimeout := 30
  typistGrace := 120
  consoleGrace := 60
  rushAllowance := 1800
  idleLimit := 300
  driftPerMille := 20
  auditInterval := 60
  auditExpected := 0
  replyTimeout := 1000
  rollCallDivisor := 16

/-- The part right after reset (R1, R25, R42, R63, R87, R103, R105, R134, R142, R145, R157, R161, R163,
R169). -/
def State.reset : State where
  officeTime := 0
  takes := Vector.replicate 512 (Take.freeAt 0)
  sessions := Vector.replicate 32 Session.freed
  consoles := Vector.replicate 24 Console.reset
  typists := Vector.replicate 48 Typist.reset
  drops := Vector.replicate 72 Drop.reset
  clearances := Vector.replicate 72 0
  clearanceLock := false
  auditFailure := false
  auditCountdown := some 60
  lastAuditSum := 0
  queue := []
  serialCounter := 0
  params := .reset
  events := 0
  masks := 0
  slot := .empty
  round := none
  inFlight := none
  ltx := []
  miso := []
  passDue := false
  pending := []

end Sys2Proof.Machine
end

