-- ==== Sys2Proof/Machine/Flags.lean ====
section
/-!
DEFINITION. The event flags of the supervisor port, their masks, and the pins computed from them (10.4,
R157, R163).
-/

namespace Sys2Proof.Machine

/-- The flag's place: flag k of the event table at bit k - 1 (R166). -/
def Event.bit : Event → Nat
  | .returned => 0
  | .atRisk => 1
  | .late => 2
  | .rushWaiting => 3
  | .dropAbsent => 4
  | .typistLost => 5
  | .takeCutShort => 6
  | .consoleDrift => 7
  | .auditFail => 8
  | .markLost => 9
  | .queryRaised => 10
  | .overlong => 11
  | .directoryFull => 12
  | .supervisorOverrun => 13

/-- A flag word with one flag set in it. -/
def withFlag (w : BitVec 14) (e : Event) : BitVec 14 := w ||| BitVec.twoPow 14 e.bit

/-- Sets an event flag; setting a set flag has no further effect (R163). -/
def State.raise (s : State) (e : Event) : State := { s with events := withFlag s.events e }

/-- Sets an event flag where there is one to set. -/
def State.raiseSome (s : State) : Option Event → State
  | none => s
  | some e => s.raise e

/-- Whether an event flag is set. -/
def State.flagSet (s : State) (e : Event) : Bool := s.events.getLsbD e.bit

/-- ATTN is asserted while at least one flag is set whose mask is 0 (R163). -/
def State.attn (s : State) : Bool := s.events &&& ~~~s.masks != 0

/-- READY is high while a response waits (R157, 11.4). -/
def State.ready (s : State) : Bool :=
  match s.slot with
  | .responseWaiting _ => true
  | _ => false

/-- The 14 defined positions of a two-byte selection or mask (R163, R164, R166). -/
def definedFlags (w : Half) : BitVec 14 := w.setWidth 14

/-- Whether a selection gives a position beyond the 14 flags, which is answered CLAMPED (R163, R164). -/
def beyondFlags (w : Half) : Bool := w >>> 14 != 0

end Sys2Proof.Machine
end

