-- ==== Sys2Proof/Machine/Operands.lean ====
section
/-!
DEFINITION. How an operand of a request is read: handles, drop and record numbers, the clamps, labels
and speaker codes, the coded sets, and the parameters' ranges (00_scope.md 5; R44, R161, R166).
-/

namespace Sys2Proof.Machine

/-! ## Handles and numbers -/

/-- The handle that 16 bits carry: the generation above, the index in the lower 9 (R2, R166). -/
def Handle.ofHalf (h : Half) : Handle where
  index := ⟨h.toNat % 512, Nat.mod_lt _ (by decide)⟩
  gen := ⟨h.toNat / 512, Nat.div_lt_of_lt_mul (by have := h.isLt; omega)⟩

/-- The 16 bits of a handle (R166). -/
def Handle.toNat (h : Handle) : Nat := h.gen.val * 512 + h.index.val

/-- Who speaks at a drop: drops 1 to 24 are consoles, drops 25 to 72 stations (00_scope.md 2). -/
inductive Role where
  | console (c : ConsoleIx)
  | typist (t : TypistIx)
deriving DecidableEq, Repr

/-- A drop's role follows from its number alone (R145). -/
def dropRole (d : DropIx) : Role :=
  if h : d.val < 24 then .console ⟨d.val, h⟩ else .typist ⟨d.val - 24, by omega⟩

/-- The drop of a console. -/
def consoleDrop (c : ConsoleIx) : DropIx := ⟨c.val, by omega⟩

/-- The drop of a typist: the number plus 24. -/
def typistDrop (t : TypistIx) : DropIx := ⟨t.val + 24, by omega⟩

/-- The index that a number 1 to n names. -/
def numbered (n : Nat) (b : Byte) : Option (Fin n) :=
  if h : 1 ≤ b.toNat ∧ b.toNat ≤ n then some ⟨b.toNat - 1, by omega⟩ else none

/-- The number by which the manual names an index. -/
def number {n : Nat} (i : Fin n) : Nat := i.val + 1

/-! ## Clamps -/

/-- A value brought into a range (00_scope.md 5.5). -/
def clampTo (low high v : Nat) : Nat := max low (min high v)

/-- Whether the clamp moved the value, which the answer reports as CLAMPED. -/
def clamps (low high v : Nat) : Bool := v < low || high < v

/-- The level of a level byte: above 3 it is taken as 3. -/
def levelOf (b : Byte) : Level := ⟨min 3 b.toNat, by omega⟩

/-- Whether a level byte lies above the range. -/
def levelClamps (b : Byte) : Bool := 3 < b.toNat

/-- The request level a request carries; absent means 3 (R135). -/
def requestLevel : Option Byte → Level
  | none => 3
  | some b => levelOf b

/-- Whether a request level lies above the range. -/
def requestLevelClamps : Option Byte → Bool
  | none => false
  | some b => levelClamps b

/-- The level of a SEAL: clamped to 1..3 (R49). -/
def sealLevelOf (b : Byte) : Level := ⟨clampTo 1 3 b.toNat, by unfold clampTo; omega⟩

/-- One added to a count that holds at its top. -/
def bump (top n : Nat) : Nat := min top (n + 1)

/-! ## Labels and speaker codes -/

/-- A printable character, 20h to 7Eh (R44, R166). -/
def printable (b : Byte) : Bool := 0x20 ≤ b.toNat && b.toNat ≤ 0x7E

/-- A label as it is taken: `none` where it is refused; otherwise the label stored, absent when there
are no characters, and whether it was cut to its first 8 (R44). -/
def labelIntake : Option Text → Option (Option Text × Bool)
  | none => some (none, false)
  | some t =>
    if t.all printable then
      some (if t.isEmpty then none else some (t.take Config.labelKept), Config.labelKept < t.length)
    else none

/-- A speaker code as it is taken: 0 gives none, 255 is taken as 254 with CLAMPED (R44). -/
def speakerIntake : Option Byte → Option Nat × Bool
  | none => (none, false)
  | some b =>
    if b.toNat = 0 then (none, false) else (some (min 254 b.toNat), 254 < b.toNat)

/-! ## Coded fields -/

/-- The codes of the mark kinds (R166). -/
def MarkKind.code : MarkKind → Nat
  | .speaker => 0
  | .exhibit => 1
  | .objection => 2
  | .ruling => 3
  | .sealStart => 4
  | .sealEnd => 5
  | .offRecordStart => 6
  | .offRecordEnd => 7
  | .query => 8
  | .note => 9
  | .bookmark => 10

/-- The mark kind of a code (R166). -/
def MarkKind.ofCode : Nat → Option MarkKind
  | 0 => some .speaker
  | 1 => some .exhibit
  | 2 => some .objection
  | 3 => some .ruling
  | 4 => some .sealStart
  | 5 => some .sealEnd
  | 6 => some .offRecordStart
  | 7 => some .offRecordEnd
  | 8 => some .query
  | 9 => some .note
  | 10 => some .bookmark
  | _ => none

/-- The kinds a console may insert by MARK (R48). -/
def MarkKind.markable : MarkKind → Bool
  | .speaker | .exhibit | .objection | .ruling | .note | .offRecordStart | .offRecordEnd => true
  | .sealStart | .sealEnd | .query | .bookmark => false

/-- The off-record kinds (R48). -/
def MarkKind.offRecord : MarkKind → Bool
  | .offRecordStart | .offRecordEnd => true
  | _ => false

/-- The kinds that the reserve is kept for (R43). -/
def MarkKind.reserved : MarkKind → Bool
  | .sealStart | .sealEnd | .offRecordStart | .offRecordEnd => true
  | _ => false

/-- The rank of a class: lower is more urgent (00_scope.md 5.6). -/
def TakeClass.rank : TakeClass → Nat
  | .rush => 0
  | .expedited => 1
  | .daily => 2
  | .ordinary => 3

/-- The class of a value; above 3 it is taken as ORDINARY (R27, R92). -/
def TakeClass.ofByte (b : Byte) : TakeClass :=
  match b.toNat with
  | 0 => .rush
  | 1 => .expedited
  | 2 => .daily
  | _ => .ordinary

/-- The codes of the take states (R166). -/
def TakeState.code : TakeState → Nat
  | .free => 0
  | .opened => 1
  | .closed => 2
  | .offered => 3
  | .typing => 4
  | .parked => 5
  | .returned => 6
  | .certified => 7

/-- The codes of the take statuses (R166). -/
def TakeStatus.code : TakeStatus → Nat
  | .onTime => 0
  | .atRisk => 1
  | .late => 2
  | .noStatus => 3

/-- The codes of the session states (R166). -/
def SessionState.code : SessionState → Nat
  | .free => 0
  | .bound => 1
  | .recording => 2
  | .ended => 3

/-- The codes of the typist states (R166). -/
def TypistState.code : TypistState → Nat
  | .off => 0
  | .idle => 1
  | .offered => 2
  | .working => 3
  | .switching => 4

/-- The codes of the drop states (R166). -/
def DropState.code : DropState → Nat
  | .disabled => 0
  | .present => 1
  | .absent => 2

/-- The codes of the drift states (R166). -/
def DriftState.code : DriftState → Nat
  | .inStep => 0
  | .drift => 1

/-- The codes of the query states (R166). -/
def QueryState.code : QueryState → Nat
  | .raised => 0
  | .resolved => 1

/-- The codes of the pending kinds (R166). -/
def PendingKind.code : PendingKind → Nat
  | .offer => 0
  | .switch => 1

/-- The codes of the answer statuses (R166). -/
def AnswerStatus.code : AnswerStatus → Nat
  | .ok => 0
  | .denied => 1
  | .wrongState => 2
  | .stale => 3
  | .full => 4
  | .guarded => 5
  | .expired => 6
  | .noSession => 7
  | .unknown => 8
  | .notFound => 9
  | .queriesOpen => 10

/-- The set that a qualification byte carries; bits 7..4 are ignored (R166). -/
def Quals.ofByte (b : Byte) : Quals :=
  ⟨b.getLsbD 0, b.getLsbD 1, b.getLsbD 2, b.getLsbD 3⟩

/-- The byte of a qualification set (R166). -/
def Quals.code (q : Quals) : Nat :=
  q.interp.toNat + 2 * q.expert.toNat + 4 * q.multiParty.toNat + 8 * q.capital.toNat

/-- Whether the set `q` holds every qualification of `need`. -/
def Quals.covers (q need : Quals) : Bool :=
  (!need.interp || q.interp) && (!need.expert || q.expert) && (!need.multiParty || q.multiParty) &&
    (!need.capital || q.capital)

/-- The byte of a take's flags (R166). -/
def TakeFlags.code (f : TakeFlags) : Nat :=
  f.timingSuspect.toNat + 2 * f.cutShort.toNat + 4 * f.overlong.toNat + 8 * f.sealMarkLost.toNat

/-! ## Request codes -/

/-- The request code of a command that is a request: console requests from 01h and typist requests
from 21h in the order of R152, supervisor requests from 01h in the order of the summary 10.2 (R166). -/
def requestCode : Instr → Nat
  | .openTake _ => 0x01
  | .rollTake _ _ => 0x02
  | .closeTake _ _ => 0x03
  | .markTake _ _ _ _ _ _ => 0x04
  | .sealTake _ _ _ => 0x05
  | .unsealTake _ _ => 0x06
  | .resolveQuery .host _ _ _ => 0x19
  | .resolveQuery _ _ _ _ => 0x07
  | .listMarks (.typist _) _ _ _ => 0x27
  | .listMarks _ _ _ _ => 0x08
  | .locateMark _ _ _ _ _ _ => 0x09
  | .rushTake _ _ => 0x0A
  | .probeTake (.console _) _ _ => 0x0B
  | .probeTake (.typist _) _ _ => 0x2A
  | .probeTake .host _ _ => 0x17
  | .signOn _ => 0x21
  | .signOff _ => 0x22
  | .checkpoint _ _ _ => 0x23
  | .raiseQuery _ _ _ _ _ => 0x24
  | .doneTake _ _ => 0x25
  | .releaseTake _ _ => 0x26
  | .acceptOffer _ _ => 0x28
  | .declineOffer _ _ => 0x29
  | .setClock _ => 0x01
  | .setParam _ _ => 0x02
  | .readParam _ => 0x03
  | .enableDrop _ => 0x04
  | .disableDrop _ => 0x05
  | .readDrop _ => 0x06
  | .setTypist _ _ _ _ => 0x07
  | .readTypist _ => 0x08
  | .setConsole _ _ => 0x09
  | .lockClearance => 0x0A
  | .openSession _ _ _ _ _ _ => 0x0B
  | .endSession _ => 0x0C
  | .readSession _ => 0x0D
  | .readTake _ => 0x0E
  | .scanTakes _ _ _ => 0x0F
  | .setDeadline _ _ => 0x10
  | .setClass _ _ => 0x11
  | .relevel _ _ => 0x12
  | .withdrawTake _ => 0x13
  | .requeueTake _ _ => 0x14
  | .certifyTake _ => 0x15
  | .retireTake _ => 0x16
  | .readMarks _ _ => 0x18
  | .readEvents => 0x1A
  | .clearEvents _ => 0x1B
  | .setMask _ => 0x1C
  | .clearCounts => 0x1D
  | .reset _ | .officeTick | .offerTimerExpiry | .typistGraceExpiry | .consoleGraceExpiry
  | .driftWindowCheck | .auditCountdownExpiry | .placementPass | .pollRound | .pollTransaction
  | .replyMiss | .goodReply _ | .requestFrame _ | .spiRead _ => 0

/-! ## Parameters -/

/-- The lowest and highest value of a parameter (10.3); `none` for an undefined number. -/
def paramRange : Nat → Option (Nat × Nat)
  | 1 => some (16, 255)
  | 2 => some (0, 65535)
  | 3 => some (5, 300)
  | 4 => some (0, 3600)
  | 5 => some (0, 3600)
  | 6 => some (60, 86400)
  | 7 => some (30, 1800)
  | 8 => some (5, 100)
  | 9 => some (0, 3600)
  | 10 => some (0, 65535)
  | 11 => some (200, 5000)
  | 12 => some (2, 64)
  | _ => none

/-- The value of a parameter by number. -/
def Params.get (p : Params) : Nat → Nat
  | 1 => p.officeRatio
  | 2 => p.margin
  | 3 => p.offerTimeout
  | 4 => p.typistGrace
  | 5 => p.consoleGrace
  | 6 => p.rushAllowance
  | 7 => p.idleLimit
  | 8 => p.driftPerMille
  | 9 => p.auditInterval
  | 10 => p.auditExpected
  | 11 => p.replyTimeout
  | 12 => p.rollCallDivisor
  | _ => 0

/-- The table with one parameter replaced. -/
def Params.put (p : Params) (n v : Nat) : Params :=
  match n with
  | 1 => { p with officeRatio := v }
  | 2 => { p with margin := v }
  | 3 => { p with offerTimeout := v }
  | 4 => { p with typistGrace := v }
  | 5 => { p with consoleGrace := v }
  | 6 => { p with rushAllowance := v }
  | 7 => { p with idleLimit := v }
  | 8 => { p with driftPerMille := v }
  | 9 => { p with auditInterval := v }
  | 10 => { p with auditExpected := v }
  | 11 => { p with replyTimeout := v }
  | 12 => { p with rollCallDivisor := v }
  | _ => p

end Sys2Proof.Machine
end

