-- ==== Sys2Proof/Machine/Ops.lean ====
section
/-!
DEFINITION. The operations that the commands share: reading and writing a record, the work estimate,
the latest start and the status, the hand-off queue, the transitions of the directory, the outbound
queues, and the transitions of a typist record.

Every change of a take's state is one of the transitions of chapter 1, stated once here.
-/

namespace Sys2Proof.Machine

/-! ## Reading and writing one record -/

/-- The take record of a slot. -/
def State.take (s : State) (i : TakeIx) : Take := s.takes[i]

/-- Writes a take record. -/
def State.setTake (s : State) (i : TakeIx) (t : Take) : State :=
  { s with takes := s.takes.set i.val t i.isLt }

/-- Changes a take record. -/
def State.modTake (s : State) (i : TakeIx) (f : Take → Take) : State := s.setTake i (f (s.take i))

/-- A session record. -/
def State.session (s : State) (x : SessionIx) : Session := s.sessions[x]

/-- Writes a session record. -/
def State.setSession (s : State) (x : SessionIx) (r : Session) : State :=
  { s with sessions := s.sessions.set x.val r x.isLt }

/-- Changes a session record. -/
def State.modSession (s : State) (x : SessionIx) (f : Session → Session) : State :=
  s.setSession x (f (s.session x))

/-- The console fields of a console's drop. -/
def State.console (s : State) (c : ConsoleIx) : Console := s.consoles[c]

/-- Writes a console's fields. -/
def State.setConsole (s : State) (c : ConsoleIx) (r : Console) : State :=
  { s with consoles := s.consoles.set c.val r c.isLt }

/-- Changes a console's fields. -/
def State.modConsole (s : State) (c : ConsoleIx) (f : Console → Console) : State :=
  s.setConsole c (f (s.console c))

/-- A typist record. -/
def State.typist (s : State) (t : TypistIx) : Typist := s.typists[t]

/-- Writes a typist record. -/
def State.setTypist (s : State) (t : TypistIx) (r : Typist) : State :=
  { s with typists := s.typists.set t.val r t.isLt }

/-- Changes a typist record. -/
def State.modTypist (s : State) (t : TypistIx) (f : Typist → Typist) : State :=
  s.setTypist t (f (s.typist t))

/-- A drop table entry. -/
def State.drop (s : State) (d : DropIx) : Drop := s.drops[d]

/-- Writes a drop table entry. -/
def State.setDrop (s : State) (d : DropIx) (r : Drop) : State :=
  { s with drops := s.drops.set d.val r d.isLt }

/-- Changes a drop table entry. -/
def State.modDrop (s : State) (d : DropIx) (f : Drop → Drop) : State := s.setDrop d (f (s.drop d))

/-- The clearance of a drop, held by the clearance unit (R134). -/
def State.clearance (s : State) (d : DropIx) : Level := s.clearances[d]

/-- Triggers a placement pass (R106). -/
def State.triggerPass (s : State) : State := { s with passDue := true }

/-- Moves the place where the polling round stands; `none` ends the round (R148). -/
def State.setRound (s : State) (r : Option Nat) : State := { s with round := r }

/-- Loads or stops the audit countdown (R142). -/
def State.setCountdown (s : State) (n : Option Nat) : State := { s with auditCountdown := n }

/-- The handle of a slot's present take. -/
def State.handleOf (s : State) (i : TakeIx) : Handle := ⟨i, (s.take i).gen⟩

/-- The slot that a handle names: its take is not FREE and its generation is the handle's. `none` is a
stale handle (R2). -/
def State.resolve (s : State) (h : Half) : Option TakeIx :=
  let x := Handle.ofHalf h
  if (s.take x.index).state ≠ .free ∧ (s.take x.index).gen = x.gen then some x.index else none

/-! ## Work estimate, latest start, status -/

/-- The work estimate W of U tenths at ratio r: U × r / 160, rounded up (R93). -/
def workEstimate (u r : Nat) : Nat := (u * r + (Config.workUnit - 1)) / Config.workUnit

/-- The untyped audio of a take (R93). -/
def Take.untyped (t : Take) : Nat := t.length - t.typedTo

/-- The ratio that a take's latest start uses: the typist's in TYPING and PARKED, the office ratio
elsewhere (R94). -/
def State.ratioFor (s : State) (t : Take) : Nat :=
  match t.state, t.typist with
  | .typing, some n | .parked, some n => (s.typist n).ratio
  | _, _ => s.params.officeRatio

/-- The states in which a take has a latest start (R14). -/
def TakeState.watched : TakeState → Bool
  | .closed | .offered | .typing | .parked => true
  | .free | .opened | .returned | .certified => false

/-- The latest start K of a take: its deadline less its work estimate, 0 when the estimate is the
larger, absent outside the four states (R94). -/
def State.startOf (s : State) (t : Take) : Option Nat :=
  if t.state.watched then t.deadline.map (· - workEstimate t.untyped (s.ratioFor t)) else none

/-- The status that a latest start has at an office time under a margin; NONE without one (R96). -/
def statusAt (now margin : Nat) : Option Nat → TakeStatus
  | none => .noStatus
  | some k => if k ≤ now then .late else if k - margin ≤ now then .atRisk else .onTime

/-- The event that a change of status raises: it worsened to AT-RISK or to LATE (R97). -/
def worsened : TakeStatus → TakeStatus → Option Event
  | .onTime, .atRisk | .noStatus, .atRisk => some .atRisk
  | .onTime, .late | .atRisk, .late | .noStatus, .late => some .late
  | _, _ => none

/-- Computes a take's status afresh and raises the event where it has worsened (R96, R97). -/
def State.restatus (s : State) (i : TakeIx) : State :=
  let t := s.take i
  let new := statusAt s.officeTime s.params.margin t.latestStart
  (s.setTake i { t with status := new }).raiseSome (worsened t.status new)

/-- Recomputes a take's latest start, and at once its status with the events (R95). -/
def State.recompute (s : State) (i : TakeIx) : State :=
  (s.modTake i (fun t => { t with latestStart := s.startOf t })).restatus i

/-- A sum of office seconds, held at the top (R89, R90). -/
def sumHeld (a b : Nat) : Nat := min Config.topSecond (a + b)

/-- The rush deadline rule on one take: class RUSH, and the deadline brought to the smaller of itself
and the present office time plus the rush allowance (R90). -/
def State.rushRule (s : State) (t : Take) : Take :=
  { t with
    cls := some .rush
    deadline := t.deadline.map (min · (sumHeld s.officeTime s.params.rushAllowance)) }

/-! ## The hand-off queue -/

/-- Whether entry `a` stands before entry `b`: by class, then latest start, then serial, then directory
index (R104). -/
def QueueEntry.before (a b : QueueEntry) : Bool :=
  if a.cls.rank ≠ b.cls.rank then a.cls.rank < b.cls.rank
  else if a.start ≠ b.start then a.start < b.start
  else if a.serial ≠ b.serial then a.serial < b.serial
  else a.take < b.take

/-- Places an entry where its keys put it (R104). -/
def insertEntry (e : QueueEntry) : List QueueEntry → List QueueEntry
  | [] => [e]
  | x :: xs => if e.before x then e :: x :: xs else x :: insertEntry e xs

/-- The queue without a take's entry; the others keep their order (R103). -/
def removeEntry (i : TakeIx) (q : List QueueEntry) : List QueueEntry := q.filter (·.take ≠ i)

/-- A new entry of a take, with the record's own keys and a clear rush-waiting indicator (6.1, R121). -/
def State.entryOf (s : State) (i : TakeIx) : QueueEntry where
  take := i
  cls := (s.take i).cls.getD .ordinary
  start := (s.take i).latestStart.getD 0
  serial := (s.take i).serial.getD 0
  rushWaiting := false

/-- Makes the entry of a take that has entered CLOSED, which triggers a pass (R103, R106). -/
def State.enqueue (s : State) (i : TakeIx) : State :=
  { s with queue := insertEntry (s.entryOf i) s.queue, passDue := true }

/-- Removes the entry of a take that leaves CLOSED (R103). -/
def State.dequeue (s : State) (i : TakeIx) : State := { s with queue := removeEntry i s.queue }

/-- A waiting entry with the take's present class and latest start. The indicator is cleared when the
class is no longer RUSH (R104, R121). -/
def State.rekey (s : State) (e : QueueEntry) : QueueEntry :=
  let c := (s.take e.take).cls.getD .ordinary
  { e with
    cls := c
    start := (s.take e.take).latestStart.getD 0
    rushWaiting := e.rushWaiting && c == .rush }

/-- Moves a take's entry to the place its new keys give it, its serial kept (R104). -/
def State.moveEntry (s : State) (i : TakeIx) : State :=
  match s.queue.find? (·.take = i) with
  | none => s
  | some e => { s with queue := insertEntry (s.rekey e) (removeEntry i s.queue) }

/-- Puts the whole queue in the order that the takes' present values give (R99, R104). -/
def State.rebuildQueue (s : State) : State :=
  { s with queue := s.queue.foldl (fun q e => insertEntry (s.rekey e) q) [] }

/-- Gives a take the serial counter's present value; the counter then rises by one, wrapping (R105). -/
def State.giveSerial (s : State) (i : TakeIx) : State :=
  { s.modTake i (fun t => { t with serial := some s.serialCounter }) with
    serialCounter := (s.serialCounter + 1) % Config.serialValues }

/-! ## Transitions of the directory -/

/-- OFFERED to CLOSED: the take keeps its serial and rejoins the queue; a typist given is added to its
exclusion list, the oldest of four dropped first (R8, R113). -/
def State.offerReturns (s : State) (i : TakeIx) (excluded : Option TypistIx) : State :=
  (s.modTake i (fun t =>
    { t with
      typist := none
      state := .closed
      exclusion :=
        match excluded with
        | none => t.exclusion
        | some n => t.exclusion.drop (t.exclusion.length + 1 - Config.exclusionCapacity) ++ [n] })).enqueue i

/-- TYPING or PARKED to CLOSED: typed-to kept, latest start by the office ratio, a new serial, and a
place in the queue (R11). -/
def State.heldReturns (s : State) (i : TakeIx) : State :=
  (((s.modTake i (fun t => { t with typist := none, package := none, state := .closed })).recompute
    i).giveSerial i).enqueue i

/-- OPEN to CLOSED at a final length: the length and the marks settled, the span ended, the deadline
assigned and a pending rush applied, the take placed in the queue. A length of 36000 makes the take
OVERLONG (R5, R33, R36, R89). -/
def State.closeRecord (s : State) (i : TakeIx) (final : Nat) (cutShort : Bool) : State :=
  let t := s.take i
  let len := min Config.topTenths final
  let allowance := match t.session with
    | none => 0
    | some x => (s.session x).allowance.getD 0
  let long : Bool := len = Config.topTenths
  let settled : Take :=
    { t with
      length := len
      marks := t.marks.map (fun m => { m with offset := min len m.offset })
      openSpan := none
      deadline := some (sumHeld s.officeTime allowance)
      flags := { t.flags with
        cutShort := t.flags.cutShort || cutShort
        overlong := t.flags.overlong || long } }
  let rushed := if t.rushPending then s.rushRule settled else settled
  ((((s.setTake i { rushed with rushPending := false, state := .closed }).raiseSome
    (if long && !t.flags.overlong then some .overlong else none)).recompute i).giveSerial i).enqueue i

/-! ## Outbound queues -/

/-- The hand-off kinds (9.5). -/
def Message.isHandOff : Message → Bool
  | .offer _ | .switch _ _ | .withdraw _ | .resume _ _ _ => true
  | .answer _ | .cue _ => false

/-- Whether a message is an ANSWER. -/
def Message.isAnswer : Message → Bool
  | .answer _ => true
  | _ => false

/-- Whether a message is a CUE; every other message is a control message (9.5). -/
def Message.isCue : Message → Bool
  | .cue _ => true
  | _ => false

/-- Whether a message is the OFFER or SWITCH of a take. -/
def Message.offers (h : Handle) : Message → Bool
  | .offer o => o.handle = h
  | .switch o _ => o.handle = h
  | _ => false

/-- Whether a message is a CUE of a take. -/
def Message.cues (h : Handle) : Message → Bool
  | .cue c => c.handle = h
  | _ => false

/-- Whether a drop's outbound queue holds an unsent hand-off message (R107). -/
def State.handOffWaits (s : State) (d : DropIx) : Bool := (s.drop d).out.any Message.isHandOff

/-- Whether a drop's outbound queue holds an unsent ANSWER (R152). -/
def State.answerWaits (s : State) (d : DropIx) : Bool := (s.drop d).out.any Message.isAnswer

/-- Replaces a drop's outbound queue. -/
def State.setOut (s : State) (d : DropIx) (q : List Message) : State :=
  s.modDrop d (fun r => { r with out := q })

/-- Counts a CUE dropped or evicted, for a typist's drop (R72). -/
def State.cueLost (s : State) (d : DropIx) : State :=
  match dropRole d with
  | .console _ => s
  | .typist t => s.modTypist t (fun r => { r with cuesDropped := bump Config.topCount r.cuesDropped })

/-- The queue with a control message placed after the last control message, ahead of every CUE (R153). -/
def placeControl (m : Message) (q : List Message) : List Message :=
  q.filter (!·.isCue) ++ [m] ++ q.filter (·.isCue)

/-- The queue without its oldest CUE. -/
def evictCue (q : List Message) : List Message := q.eraseP (·.isCue)

/-- Hands a control message to the link controller: not queued when the drop is not PRESENT; a full
queue first loses its oldest CUE, which is counted. A full queue of four control messages, which R153
excludes, takes no more (R153; log entry 17). -/
def State.queueControl (s : State) (d : DropIx) (m : Message) : State :=
  let q := (s.drop d).out
  if (s.drop d).state ≠ .present then s
  else if q.length < Config.outboundCapacity then s.setOut d (placeControl m q)
  else if q.any (·.isCue) then (s.setOut d (placeControl m (evictCue q))).cueLost d
  else s

/-- Hands a CUE to the link controller: placed at the end, or dropped and counted when the queue is full
(R153). -/
def State.queueCue (s : State) (d : DropIx) (c : CueFields) : State :=
  let q := (s.drop d).out
  if (s.drop d).state ≠ .present then s
  else if q.length < Config.outboundCapacity then s.setOut d (q ++ [.cue c])
  else s.cueLost d

/-- Removes messages from a drop's queue without counting them (R154). -/
def State.removeOut (s : State) (d : DropIx) (p : Message → Bool) : State :=
  s.setOut d ((s.drop d).out.filter (!p ·))

/-- The queue with its unsent hand-off message replaced in its place (R153). -/
def replaceHandOff (m : Message) (q : List Message) : List Message :=
  q.map (fun x => if x.isHandOff then m else x)

/-- Whether the typist's drop is PRESENT. -/
def State.typistPresent (s : State) (t : TypistIx) : Bool :=
  (s.drop (typistDrop t)).state = .present

/-- Announces the withdrawal of a take, pending (`current = false`) or current, to its typist's drop,
under R116. A waiting hand-off message that the table of R116 does not list is replaced in its place
(log entry 17). -/
def State.queueWithdraw (s : State) (t : TypistIx) (h : Handle) (current : Bool) : State :=
  let d := typistDrop t
  let q := (s.drop d).out
  if !s.typistPresent t then s
  else match q.find? Message.isHandOff with
    | none => s.queueControl d (.withdraw [h])
    | some (.withdraw hs) => s.setOut d (replaceHandOff (.withdraw (hs ++ [h])) q)
    | some (.switch o p) =>
      if current then s
      else if (Message.switch o p).offers h then s.removeOut d (·.offers h)
      else s.setOut d (replaceHandOff (.withdraw [h]) q)
    | some (.offer o) =>
      if !current && (Message.offer o).offers h then s.removeOut d (·.offers h)
      else s.setOut d (replaceHandOff (.withdraw [h]) q)
    | some _ => s.setOut d (replaceHandOff (.withdraw [h]) q)

/-- The RESUME message of a typist's current take as its record stands (R79, R82). -/
def State.resumeMessage (s : State) (t : TypistIx) : Option Message :=
  match (s.typist t).current, (s.typist t).context with
  | some i, some c => some (.resume (s.handleOf i) c.position c.notes)
  | _, _ => none

/-- Queues a RESUME for a typist's current take when its drop is PRESENT; it takes the place of the WITHDRAW of a
withdrawn rush take (R79, R82, R116, R122). DESIGN CHOICE, unsafe: it takes the place of any other unsent
hand-off message as well, such as the SWITCH of a rush take that was accepted before it was sent, a meeting
that R116 does not list (log entry 17). -/
def State.queueResume (s : State) (t : TypistIx) : State :=
  let d := typistDrop t
  if !s.typistPresent t then s
  else match s.resumeMessage t with
    | none => s
    | some m =>
      if s.handOffWaits d then s.setOut d (replaceHandOff m (s.drop d).out) else s.queueControl d m

/-! ## Transitions of a typist record -/

/-- A typist becomes IDLE: idle-since is set and a pass is triggered (R64). -/
def State.becomeIdle (s : State) (t : TypistIx) : State :=
  (s.modTypist t (fun r => { r with state := .idle, idleSince := some s.officeTime })).triggerPass

/-- An offer ends for its typist: the timer and the pending take become absent; the typist returns to
WORKING when it still holds a current take and becomes IDLE otherwise (R111, R114, R120). -/
def State.offerEnds (s : State) (t : TypistIx) : State :=
  let s' := s.modTypist t (fun r => { r with pending := none, offerTimer := none })
  if (s.typist t).current.isSome then s'.modTypist t (fun r => { r with state := .working })
  else s'.becomeIdle t

/-- The context into which a package is loaded at a resume; the accept and resume are activity (R68,
R122). -/
def Package.toContext (p : Package) (now : Nat) : Context where
  position := p.position
  cursor := p.cursor
  work := p.work
  base := p.base
  lastActivity := now
  notes := p.notes

/-- The package that saves a context (R9, R119). -/
def Context.toPackage (c : Context) : Package where
  position := c.position
  cursor := c.cursor
  work := c.work
  base := c.base
  notes := c.notes

/-- PARKED to TYPING: the package becomes the typist's context again and the take is current; the latest
start is recomputed with the typist's ratio (R10, R122). -/
def State.resumeParked (s : State) (t : TypistIx) (p : TakeIx) : State :=
  let loaded := (s.take p).package.map (·.toContext s.officeTime)
  ((s.modTake p (fun r => { r with state := .typing, package := none })).modTypist t (fun r =>
    { r with current := some p, parked := none, context := loaded, state := .working })).recompute p

/-- A typist's current take has left it: its unsent CUEs are removed and the next state is the first case
of R79 that holds. Answers whether a parked take was resumed, whose RESUME the caller queues (R72, R79). -/
def State.currentLeaves (s : State) (t : TypistIx) (left : TakeIx) : Bool × State :=
  let gone := (s.removeOut (typistDrop t) (·.cues (s.handleOf left))).modTypist t (fun r =>
    { r with current := none, context := none })
  match (s.typist t).state, (s.typist t).parked with
  | .switching, _ => (false, gone.modTypist t (fun r => { r with state := .offered }))
  | _, some p => (true, gone.resumeParked t p)
  | _, none => (false, gone.becomeIdle t)

/-- The message of an offer that has ended by itself or by a withdrawal: an OFFER or SWITCH still unsent is
removed and nothing is queued in its place, one that has been sent is followed by a WITHDRAW (R112,
R114). -/
def State.retractOffer (s : State) (t : TypistIx) (h : Handle) : State :=
  if (s.drop (typistDrop t)).out.any (·.offers h) then s.removeOut (typistDrop t) (·.offers h)
  else s.queueWithdraw t h false

/-- Withdraws a typist's pending take: back to CLOSED without exclusion, its serial kept, with its message
when `announce` asks for it (R114). -/
def State.withdrawPending (s : State) (t : TypistIx) (announce : Bool) : State :=
  match (s.typist t).pending with
  | none => s
  | some p =>
    let back := (s.offerReturns p.take none).offerEnds t
    if announce then back.retractOffer t (s.handleOf p.take) else back

/-- Withdraws a typist's parked take: back to CLOSED with a new serial, and no message (R80, R115). -/
def State.withdrawParked (s : State) (t : TypistIx) : State :=
  match (s.typist t).parked with
  | none => s
  | some i => (s.heldReturns i).modTypist t (fun r => { r with parked := none })

/-- Withdraws a typist's current take: back to CLOSED with a new serial, a WITHDRAW announced, and the
typist's next state by R79 with the RESUME of a resumed take (R115, R116). -/
def State.withdrawCurrent (s : State) (t : TypistIx) : State :=
  match (s.typist t).current with
  | none => s
  | some i =>
    let (resumed, s') := (s.heldReturns i).currentLeaves t i
    let announced := s'.queueWithdraw t (s.handleOf i) true
    if resumed then announced.queueResume t else announced

/-- Takes a take away from the typist that holds it, by where it stands (R21, R140). -/
def State.withdrawHeld (s : State) (i : TakeIx) : State :=
  match (s.take i).state, (s.take i).typist with
  | .offered, some t => s.withdrawPending t true
  | .parked, some t => s.withdrawParked t
  | .typing, some t => s.withdrawCurrent t
  | _, _ => s

/-- Relieves a typist of every take it holds, pending, then current, then parked, and makes it OFF
(R66, R83, R84). -/
def State.signOffRecord (s : State) (t : TypistIx) : State :=
  let r := s.typist t
  let s1 := match r.pending with
    | none => s
    | some p => s.offerReturns p.take none
  let s2 := match r.current with
    | none => s1
    | some i => s1.heldReturns i
  let s3 := match r.parked with
    | none => s2
    | some i => s2.heldReturns i
  s3.modTypist t (fun r =>
    { r with
      state := .off
      current := none
      parked := none
      pending := none
      offerTimer := none
      context := none
      idleSince := none
      grace := none })

/-- A typist's absence grace expires: it is signed off, away stays as it is, TYPIST-LOST is raised
(R83). -/
def State.typistGraceEnds (s : State) (t : TypistIx) : State := (s.signOffRecord t).raise .typistLost

/-! ## Clearance -/

/-- The effective clearance of a drop for a request level: the smaller of the two, and 0 while an audit
failure stands (R135). -/
def State.effective (s : State) (d : DropIx) (q : Level) : Level :=
  if s.auditFailure then 0 else min (s.clearance d) q

/-- Writes a drop's clearance and, for a typist's drop, the copy in its record (R134). -/
def State.setClearance (s : State) (d : DropIx) (l : Level) : State :=
  let s' := { s with clearances := s.clearances.set d.val l d.isLt }
  match dropRole d with
  | .console _ => s'
  | .typist t => s'.modTypist t (fun r => { r with clearance := l })

/-- Whether a typist's recorded clearance and qualifications cover a take (R136). -/
def Typist.coversTake (r : Typist) (k : Take) : Bool := k.level ≤ r.clearance && r.quals.covers k.quals

/-! ## Sessions -/

/-- The session that a console is bound to. -/
def State.boundTo (s : State) (c : ConsoleIx) : Option SessionIx := (s.console c).bound

/-- The record of a non-FREE session with the host's id (R27, R29). -/
def State.findSession (s : State) (id : Half) : Option SessionIx :=
  (List.finRange 32).find? (fun x => (s.session x).state ≠ .free ∧ (s.session x).id = some id)

/-- The session table's part of a close, after R5: the session end advances, the open take becomes
absent, the window stops, the last code becomes absent and the session is BOUND. The open take is closed
at the length `final` gives for its record. With `carries` a span open at the close is recorded as a seal
carry; without, any carry is discarded (R33, R34, R38, R54). -/
def State.closeSession (s : State) (x : SessionIx) (final : Take → Nat) (cutShort carries : Bool) :
    State :=
  let r := s.session x
  match r.openTake with
  | none => s
  | some i =>
    let len := min Config.topTenths (final (s.take i))
    let span := (s.take i).openSpan
    let closed := (s.closeRecord i len cutShort).modSession x (fun r =>
      { r with
        sessionEnd := r.sessionEnd.map (· + len)
        openTake := none
        state := .bound
        sealCarry := if carries then span.or r.sealCarry else none })
    match r.console with
    | none => closed
    | some c => closed.modConsole c (fun k => { k with window := none, lastCode := none })

/-- The grace of an absent console expires, or its drop is disabled while its session records: the open
take is closed CUT-SHORT at its held length, a span is carried, the grace timer stops, and
TAKE-CUT-SHORT is raised (R38). -/
def State.cutShortClose (s : State) (c : ConsoleIx) : State :=
  let stopped := s.modConsole c (fun k => { k with grace := none })
  match s.boundTo c with
  | none => stopped
  | some x =>
    if (s.session x).state = .recording then
      (stopped.closeSession x (·.length) true true).raise .takeCutShort
    else stopped

/-- An ENDED session whose take list is empty returns to FREE (R30). -/
def State.freeIfEmpty (s : State) (x : SessionIx) : State :=
  if (s.session x).state = .ended ∧ (s.session x).takes = [] then s.setSession x .freed else s

/-- A drift failure of a console: the open take is TIMING-SUSPECT, and a console IN-STEP enters DRIFT
with CONSOLE-DRIFT raised (R41). -/
def State.driftFails (s : State) (c : ConsoleIx) : State :=
  let suspect := match (s.boundTo c).bind (fun x => (s.session x).openTake) with
    | none => s
    | some i => s.modTake i (fun t => { t with flags := { t.flags with timingSuspect := true } })
  if (s.console c).drift = .inStep then
    (suspect.modConsole c (fun k => { k with drift := .drift })).raise .consoleDrift
  else suspect

end Sys2Proof.Machine
end

