-- ==== Sys2Proof/Machine/Cue.lean ====
section
/-!
DEFINITION. The cue table: the pool, the level in force, insertion of a mark, the seal effect, the
hand-over of an insertion to a typist's context, and the position reports that deliver cues (chapter 3,
R42 to R58; R70, R71).
-/

namespace Sys2Proof.Machine

/-! ## The pool -/

/-- The identifiers of the records in use (R42). -/
def State.usedMarks (s : State) : List Nat :=
  s.takes.toList.flatMap (fun t => t.marks.map (fun m => m.id.val))

/-- The free count: the records not in use (R42). -/
def State.freeMarks (s : State) : Nat := Config.poolSize - s.usedMarks.length

/-- The first number from `n` on, of the `fuel` numbers looked at, that is not in use. -/
def firstUnused (used : List Nat) : Nat → Nat → Nat
  | 0, n => n
  | fuel + 1, n => if used.contains n then firstUnused used fuel (n + 1) else n

/-- The free record with the lowest index (R42). -/
def State.lowestFree (s : State) : Option MarkId :=
  let n := firstUnused s.usedMarks Config.poolSize 0
  if h : n < 4096 then some ⟨n, h⟩ else none

/-- Whether there is room to store a mark of a kind in a take (R43). -/
def State.hasRoom (s : State) (t : Take) (k : MarkKind) : Bool :=
  t.marks.length < Config.listCapacity && 0 < s.freeMarks &&
    (k.reserved || Config.reserve < s.freeMarks)

/-! ## The level in force -/

/-- The span open after one more mark of the list (R51). -/
def spanAfter (open? : Option Level) (m : Mark) : Option Level :=
  match m.kind with
  | .sealStart => some (match open? with
    | none => m.level
    | some l => max l m.level)
  | .sealEnd => none
  | _ => open?

/-- The span open after the seal marks of a stretch of list (R51). -/
def spanOf (ms : List Mark) : Option Level := ms.foldl spanAfter none

/-- The session level of a take's session. -/
def State.sessionLevel (s : State) (t : Take) : Level :=
  match t.session with
  | none => 0
  | some x => (s.session x).level.getD 0

/-- The session level, or the larger of it and an open span's level. -/
def State.levelUnder (s : State) (t : Take) : Option Level → Level
  | none => s.sessionLevel t
  | some l => max (s.sessionLevel t) l

/-- The level a mark of no seal-start kind receives at a list position: the level in force there, or the
take level once SEAL-MARK-LOST is set (R51). -/
def State.levelAt (s : State) (t : Take) (p : Nat) : Level :=
  if t.flags.sealMarkLost then t.level else s.levelUnder t (spanOf (t.marks.take p))

/-- The level in force at the present end of an OPEN take: the larger of the session level and the open span's
level, or the session level with no span open; and the take level once SEAL-MARK-LOST is set (R52). DESIGN CHOICE,
unsafe: R52 also calls it the level that a mark there would receive by R51, and the two differ once a suppressed
SEAL has opened or raised the span, which the list does not show; the model shows the open span's level (log entry
34). With SEAL-MARK-LOST a RELEVEL, which raises the take level, raises the level shown, where R140 says that
RELEVEL does not change it. DESIGN CHOICE, unsafe: of the two rules the model follows R52 there (log entry 30). -/
def State.endLevel (s : State) (t : Take) : Level :=
  if t.flags.sealMarkLost then t.level else s.levelUnder t t.openSpan

/-- A take whose level is raised to a given one; its open span stays as it is (R52, R140). -/
def Take.relevelled (l : Level) (t : Take) : Take := { t with level := max t.level l }

/-- The seal effect: a span opens at the level, or the open one is raised to it, and the take level
becomes the larger of itself and the span's level (R49, R52). -/
def sealEffect (l : Level) (t : Take) : Take :=
  let span := match t.openSpan with
    | none => l
    | some o => max o l
  { t with openSpan := some span, level := max t.level span }

/-! ## Insertion -/

/-- A mark to be inserted: its offset already taken by R47. `level` is given for a SEAL-START and
otherwise found from the list (R51). -/
structure NewMark where
  offset : Nat
  kind : MarkKind
  speaker : Option Nat
  label : Option Text
  source : Source
  level : Option Level
deriving DecidableEq, Repr

/-- Whether a mark of the list is identical to the one to be inserted (R46). -/
def NewMark.same (n : NewMark) (m : Mark) : Bool :=
  m.kind = n.kind && m.offset = n.offset && m.speaker = n.speaker && m.label = n.label &&
    m.source = n.source

/-- The list position of an insertion: after every mark whose offset is at or below its own (R45). -/
def insertionPlace (offset : Nat) (ms : List Mark) : Nat :=
  (ms.takeWhile (fun m => m.offset ≤ offset)).length

/-- The list with a mark inserted at a position. -/
def insertAt (p : Nat) (m : Mark) (ms : List Mark) : List Mark := ms.take p ++ m :: ms.drop p

/-- What an insertion at list position `p` does to a cursor and a notes-pending count. `own` marks the
holding typist's own QUERY, `answer` a note that answers a resolution (R58). -/
def cursorShift (p : Nat) (kind : MarkKind) (own answer : Bool) (cursor notes : Nat) : Nat × Nat :=
  if own then (if p ≤ cursor then cursor + 1 else cursor, notes)
  else if p < cursor then
    (cursor + 1, if kind = .note && !answer then bump Config.topCount notes else notes)
  else (cursor, notes)

/-- Changes the cursor and the notes pending of the context that describes a held take: the typist's
working context in TYPING, the exchange package in PARKED (R58). -/
def State.toContext (s : State) (i : TakeIx) (f : Nat → Nat → Nat × Nat) : State :=
  match (s.take i).state, (s.take i).typist with
  | .typing, some t =>
    s.modTypist t (fun r => { r with context := r.context.map (fun c =>
      { c with cursor := (f c.cursor c.notes).1, notes := (f c.cursor c.notes).2 }) })
  | .parked, _ =>
    s.modTake i (fun k => { k with package := k.package.map (fun c =>
      { c with cursor := (f c.cursor c.notes).1, notes := (f c.cursor c.notes).2 }) })
  | _, _ => s

/-- What becomes of an insertion. -/
inductive Inserted where
  /-- an identical mark stands in the list (R46) -/
  | duplicate (id : MarkId)
  /-- stored under the identifier (R42) -/
  | stored (id : MarkId)
  /-- not stored for lack of room (R43) -/
  | lost
deriving DecidableEq, Repr

/-- The identifier that stands in the list after an insertion. -/
def Inserted.id? : Inserted → Option MarkId
  | .duplicate m => some m
  | .stored m => some m
  | .lost => none

/-- A mark is lost: the marks-lost count rises and MARK-LOST is raised (R43). -/
def State.loseMark (s : State) (i : TakeIx) : State :=
  (s.modTake i (fun t => { t with marksLost := bump Config.topCount t.marksLost })).raise .markLost

/-- Whether a source's marks are unverified now: a console in DRIFT (R44). -/
def State.unverified (s : State) : Source → Bool
  | .console c => (s.console c).drift = .drift
  | _ => false

/-- The level a new mark is stored with at a list position: the one given for a SEAL-START, the level in
force for every other kind, and the take level in a take whose SEAL-MARK-LOST flag is set (R51, R53; log
entry 11). -/
def State.markLevel (s : State) (t : Take) (n : NewMark) (p : Nat) : Level :=
  if t.flags.sealMarkLost then t.level else n.level.getD (s.levelAt t p)

/-- The record of a new mark (R44). -/
def State.newRecord (s : State) (t : Take) (n : NewMark) (id : MarkId) (p : Nat) : Mark where
  id := id
  offset := n.offset
  kind := n.kind
  speaker := n.speaker
  label := n.label
  level := s.markLevel t n p
  source := n.source
  query := if n.kind = .query then some .raised else none
  unverified := s.unverified n.source

/-- Inserts a mark into a take: the duplicate check, then the room check, then the storing and the
hand-over to the holding typist's context. A BOOKMARK refused for room is not counted (R42 to R46, R58,
R61). DESIGN CHOICE, unsafe: of two identical marks that stand, which R33 can leave, a duplicate is answered the
first in list order (log entry 29). -/
def State.insertMark (s : State) (i : TakeIx) (n : NewMark) (answer : Bool) : Inserted × State :=
  let t := s.take i
  match t.marks.find? n.same with
  | some m => (.duplicate m.id, s)
  | none =>
    match if s.hasRoom t n.kind then s.lowestFree else none with
    | none => (.lost, if n.kind = .bookmark then s else s.loseMark i)
    | some id =>
      let p := insertionPlace n.offset t.marks
      let own : Bool := n.kind = .query && t.typist.map Source.typist = some n.source
      (.stored id,
        (s.setTake i { t with marks := insertAt p (s.newRecord t n id p) t.marks }).toContext i
          (cursorShift p n.kind own answer))

/-- Inserts a SEAL-START at an offset with its seal effect, which it has whether stored, suppressed or
lost; a lost one sets SEAL-MARK-LOST (R49, R53, R55). -/
def State.insertSealStart (s : State) (i : TakeIx) (offset : Nat) (l : Level) (label : Option Text)
    (source : Source) : Inserted × State :=
  let sealed := s.modTake i (sealEffect l)
  let r := sealed.insertMark i ⟨offset, .sealStart, none, label, source, (sealed.take i).openSpan⟩ false
  match r with
  | (.lost, s') =>
    (.lost, s'.modTake i (fun t => { t with flags := { t.flags with sealMarkLost := true } }))
  | other => other

/-! ## Allocation of a take -/

/-- The lowest FREE directory slot (R4). -/
def State.lowestFreeSlot (s : State) : Option TakeIx :=
  (List.finRange 512).find? (fun i => (s.take i).state = .free)

/-- The record of a take newly opened for a session (R4). -/
def Take.openedFor (g : Gen) (x : SessionIx) (r : Session) : Take :=
  { Take.freeAt g with
    state := .opened
    session := some x
    sequence := r.nextSequence
    sessionStart := r.sessionEnd
    console := r.console
    level := r.level.getD 0
    cls := r.cls
    quals := r.quals }

/-- The sequence after a given one; absent after the 64th (R26). -/
def nextSequence (n : Nat) : Option Nat := if n < Config.sessionTakes then some (n + 1) else none

/-- Opens a take in a session in a slot: the record filled, the session's list, open take, sequence and
state advanced, a seal carry consumed, the console's last code absent and its window not running (R4,
R32, R55). -/
def State.openInSlot (s : State) (c : ConsoleIx) (x : SessionIx) (i : TakeIx) : State :=
  let r := s.session x
  let filled := ((s.setTake i (Take.openedFor (s.take i).gen x r)).setSession x
    { r with
      takes := r.takes ++ [i]
      openTake := some i
      nextSequence := r.nextSequence.bind nextSequence
      state := .recording
      sealCarry := none }).modConsole c (fun k => { k with lastCode := none, window := none })
  match r.sealCarry with
  | none => filled
  | some l => (filled.insertSealStart i 0 l none .carry).2

/-! ## Delivery of cues -/

/-- The list position of the first mark at or above an offset, or the mark count (R71, R110). -/
def firstAtOrAbove (offset : Nat) (ms : List Mark) : Nat :=
  (ms.takeWhile (fun m => m.offset < offset)).length

/-- Hands the marks of a stretch of list on as CUEs, in list order, from list position `p` (R70). -/
def State.handOn (s : State) (d : DropIx) (h : Handle) : Nat → List Mark → State
  | _, [] => s
  | p, m :: ms => (s.queueCue d ⟨h, p, m⟩).handOn d h (p + 1) ms

/-- Takes a position report of a typist with a current take: a forward move hands on every mark from the
cursor up to the new position; a backward move sets the cursor back and queues nothing (R70, R71). -/
def State.movePosition (s : State) (t : TypistIx) (i : TakeIx) (c : Context) (pos : Nat) : State :=
  let ms := (s.take i).marks
  if c.position < pos then
    let passed := (ms.drop c.cursor).takeWhile (fun m => m.offset ≤ pos)
    (s.handOn (typistDrop t) (s.handleOf i) c.cursor passed).modTypist t (fun r =>
      { r with context := some { c with position := pos, cursor := c.cursor + passed.length } })
  else if pos < c.position then
    s.modTypist t (fun r =>
      { r with context := some { c with position := pos, cursor := firstAtOrAbove pos ms } })
  else s

/-- A typist's activity: the context's last activity becomes the office time (R69). -/
def State.activity (s : State) (t : TypistIx) : State :=
  s.modTypist t (fun r => { r with context := r.context.map (fun c =>
    { c with lastActivity := s.officeTime }) })

end Sys2Proof.Machine
end

