-- ==== Sys2Proof/Machine/Formats.lean ====
section
/-!
DEFINITION. The byte layouts of both lines (chapter 11): fields, answers, messages, the status block, the
poll frame, the frame check, the judging of a reply, and the supervisor's response frame.
-/

namespace Sys2Proof.Machine

/-! ## Numbers and fields (R166) -/

/-- A one-byte number. -/
def smallBytes (n : Nat) : List Byte := [BitVec.ofNat 8 n]

/-- A two-byte number, most significant byte first. -/
def halfBytes (n : Nat) : List Byte := [BitVec.ofNat 8 (n / 256), BitVec.ofNat 8 n]

/-- A four-byte number, most significant byte first. -/
def quadBytes (n : Nat) : List Byte := halfBytes (n / 65536) ++ halfBytes n

/-- A label: its length byte and its characters. -/
def textBytes (t : Text) : List Byte := smallBytes t.length ++ t

/-- The bytes of a field. -/
def Field.encode : Field → List Byte
  | .handle h => halfBytes h.toNat
  | .small n => smallBytes n
  | .half n => halfBytes n
  | .quad n => quadBytes n
  | .flag b => smallBytes b.toNat
  | .label t => textBytes t
  | .absent => smallBytes 0
  | .present => smallBytes 1

/-- The bytes of a list of fields. -/
def encodeFields (fs : List Field) : List Byte := fs.flatMap Field.encode

/-- An optional field: its presence byte and, when present, its value. -/
def optional {α : Type} (o : Option α) (value : α → List Field) : List Field :=
  match o with
  | none => [.absent]
  | some a => .present :: value a

/-- A list: a count byte, then its entries. -/
def counted {α : Type} (l : List α) (entry : α → List Field) : List Field :=
  .small l.length :: l.flatMap entry

/-! ## Answers -/

/-- The indications byte (R166). -/
def Answer.indications (a : Answer) : Nat := a.clamped.toNat + 2 * a.own.toNat + 4 * a.asked.toNat

/-- What both lines send of an answer: code, status, indications and result fields (R167, R168). -/
def Answer.encode (a : Answer) : List Byte :=
  smallBytes a.code ++ smallBytes a.status.code ++ smallBytes a.indications ++ encodeFields a.fields

/-- A supervisor response frame: a length of 2 bytes counting the whole frame, then the answer (R168). -/
def Answer.responseFrame (a : Answer) : List Byte := halfBytes (a.encode.length + 2) ++ a.encode

/-- The no-response frame (R168). -/
def noResponse : List Byte := [0, 0]

/-! ## Fields of records -/

/-- A mark source: a source byte, then the console drop or typist number (R166). -/
def Source.fields : Source → List Field
  | .console c => [.small 0, .small (number c)]
  | .typist t => [.small 1, .small (number t)]
  | .supervisor => [.small 2, .small 0]
  | .carry => [.small 3, .small 0]

/-- A speaker code, present or absent. -/
def speakerField (o : Option Nat) : List Field := optional o (fun n => [.small n])

/-- A label, present or absent. -/
def labelField (o : Option Text) : List Field := optional o (fun t => [.label t])

/-- A query state, present on QUERY marks (log entry 15). -/
def queryField (o : Option QueryState) : List Field := optional o (fun q => [.small q.code])

/-- One mark of a LIST or READ-MARKS answer, with its list position (R59). -/
def Mark.fields (p : Nat) (m : Mark) : List Field :=
  [.small p, .half m.id.val, .half m.offset, .small m.kind.code] ++ speakerField m.speaker ++
    labelField m.label ++ [.small m.level.val] ++ m.source.fields ++ queryField m.query ++
    [.flag m.unverified]

/-- The marks of a LIST or READ-MARKS answer: a count and the marks from a list position on. -/
def markListing (start : Nat) (ms : List Mark) : List Field :=
  .small ms.length :: (ms.zipIdx start).flatMap (fun x => x.1.fields x.2)

/-! ## Messages (R167) -/

/-- The fields of an OFFER in the order of R109. -/
def OfferFields.fields (o : OfferFields) : List Field :=
  [.handle o.handle, .small o.level.val, .small o.cls.rank, .small o.quals.code, .half o.length,
    .half o.typedTo, .quad o.deadline, .quad o.latestStart, .small o.status.code, .half o.timeout]

/-- The fields of a CUE in the order of R72. -/
def CueFields.fields (c : CueFields) : List Field :=
  [.handle c.handle, .half c.mark.id.val, .small c.position, .half c.mark.offset,
    .small c.mark.kind.code] ++ speakerField c.mark.speaker ++ labelField c.mark.label ++
    [.small c.mark.level.val] ++ queryField c.mark.query ++ [.flag c.mark.unverified]

/-- The code of a message's kind (R167). -/
def Message.kindCode : Message → Nat
  | .answer _ => 0x01
  | .offer _ => 0x02
  | .switch _ _ => 0x03
  | .withdraw _ => 0x04
  | .resume _ _ _ => 0x05
  | .cue _ => 0x06

/-- A message's bytes: the kind byte, then its fields. -/
def Message.encode (m : Message) : List Byte :=
  smallBytes m.kindCode ++
    match m with
    | .answer a => a.encode
    | .offer o => encodeFields o.fields
    | .switch o p => encodeFields (o.fields ++ [.handle p])
    | .withdraw hs => encodeFields (counted hs (fun h => [.handle h]))
    | .resume h p n => encodeFields [.handle h, .half p, .small n]
    | .cue c => encodeFields c.fields

/-! ## The frame check (R149, R167) -/

/-- One data bit into the check register: a shift to the left, and 1021h where the bit shifted out differs
from the data bit. -/
def crcBit (r : BitVec 16) (b : Bool) : BitVec 16 :=
  if r.msb != b then (r <<< 1) ^^^ 0x1021#16 else r <<< 1

/-- One byte, most significant bit first. -/
def crcByte (r : BitVec 16) (b : Byte) : BitVec 16 :=
  [7, 6, 5, 4, 3, 2, 1, 0].foldl (fun r k => crcBit r (b.getLsbD k)) r

/-- The register over some bytes, from all ones. -/
def crc (bs : List Byte) : BitVec 16 := bs.foldl crcByte 0xFFFF#16

/-- A frame with its check, high byte first. -/
def checked (bs : List Byte) : List Byte := bs ++ halfBytes (crc bs).toNat

/-! ## The poll frame (R149, R155, R167) -/

/-- A value where a flag bit is set, zero where it is clear (11.2). -/
def shown (o : Option Nat) : Nat := o.getD 0

/-- The status block of a console drop as the records stand (R35, R155). -/
def State.consoleBlock (s : State) (c : ConsoleIx) : List Byte :=
  let k := s.console c
  let x := k.bound.map s.session
  let i := x.bind (·.openTake)
  smallBytes (k.bound.isSome.toNat + 2 * i.isSome.toNat + 4 * (decide (k.drift = .drift)).toNat) ++
    halfBytes (shown (x.bind (fun r => r.id.map BitVec.toNat))) ++
    halfBytes (shown (i.map (fun i => (s.handleOf i).toNat))) ++
    halfBytes (shown (i.map (fun i => (s.take i).length))) ++
    smallBytes (shown (i.map (fun i => (s.endLevel (s.take i)).val)))

/-- The status block of a typist's drop as the records stand (R68, R155). -/
def State.typistBlock (s : State) (t : TypistIx) : List Byte :=
  let r := s.typist t
  smallBytes (r.current.isSome.toNat + 2 * r.parked.isSome.toNat + 4 * s.auditFailure.toNat) ++
    halfBytes (shown (r.current.map (fun i => (s.handleOf i).toNat))) ++
    smallBytes (shown (r.current.map (fun i => (s.take i).status.code))) ++
    halfBytes (shown (r.current.map (fun i => (s.take i).typedTo))) ++
    smallBytes (shown (r.current.bind (fun _ => r.context.map (·.notes)))) ++
    halfBytes (shown (r.parked.map (fun i => (s.handleOf i).toNat)))

/-- The status block of a drop (R155). -/
def State.statusBlock (s : State) (d : DropIx) : List Byte :=
  match dropRole d with
  | .console c => s.consoleBlock c
  | .typist t => s.typistBlock t

/-- The poll frame to a drop: address, status block, the length and bytes of the head message, frame
check (11.2). -/
def State.pollFrame (s : State) (d : DropIx) : List Byte :=
  let m := match (s.drop d).out with
    | [] => []
    | m :: _ => m.encode
  checked (smallBytes (number d) ++ s.statusBlock d ++ smallBytes m.length ++ m)

/-! ## The reply frame (R149, R167) -/

/-- A good reply: the recording-state or flag byte, the time code or position, and the request bytes. -/
structure Reply where
  flags : Byte
  value : Nat
  request : List Byte
deriving DecidableEq, Repr

/-- The reply frame that a station sends. -/
def replyFrame (d : DropIx) (r : Reply) : List Byte :=
  checked (smallBytes (number d) ++ [r.flags] ++ halfBytes r.value ++ smallBytes r.request.length ++
    r.request)

/-- Judges the bytes of a reply from a polled drop: good when the length is exactly 7 + r, a console's
recording-state byte is 00h or 01h, the address is the drop polled and the check is correct; `none` is a
miss (R149, R167). -/
def judgeReply (d : DropIx) : List Byte → Option Reply
  | a :: f :: v1 :: v0 :: r :: rest =>
    let body := rest.take r.toNat
    if rest.length = r.toNat + 2 ∧ a.toNat = number d ∧ (d.val < 24 → f.toNat ≤ 1) ∧
        rest.drop r.toNat = halfBytes (crc (a :: f :: v1 :: v0 :: r :: body)).toNat then
      some ⟨f, v1.toNat * 256 + v0.toNat, body⟩
    else none
  | _ => none

end Sys2Proof.Machine
end

