-- ==== Sys2Proof/Machine/Placement.lean ====
section
/-!
DEFINITION. The placement pass of the arbiter: eligibility, the first walk with its offers, the second
walk with its switches, and RUSH-WAITING (6.2, 6.5; R106 to R109, R117, R118, R121).
-/

namespace Sys2Proof.Machine

/-- The last four conditions of R107, shared with a candidate for a SWITCH: no unsent hand-off message,
the effective clearance, the qualifications, not in the exclusion list (R107, R117). -/
def State.mayHear (s : State) (t : TypistIx) (k : Take) : Bool :=
  !s.handOffWaits (typistDrop t) && decide (k.level ≤ s.effective (typistDrop t) 3) &&
    (s.typist t).quals.covers k.quals && !k.exclusion.contains t

/-- Whether a typist is eligible for a take (R107). -/
def State.eligible (s : State) (t : TypistIx) (k : Take) : Bool :=
  decide ((s.typist t).state = .idle) && !(s.typist t).away && s.mayHear t k

/-- The first element of a list that no other is better than. -/
def firstBest {α : Type} (better : α → α → Bool) : List α → Option α
  | [] => none
  | x :: xs =>
    match firstBest better xs with
    | none => some x
    | some y => if better y x then some y else some x

/-- Whether idle typist `a` is preferred to `b` for a take: the smaller work estimate with its own ratio,
then the earlier idle-since (R108). -/
def State.preferred (s : State) (k : Take) (a b : TypistIx) : Bool :=
  let w (t : TypistIx) := workEstimate k.untyped (s.typist t).ratio
  let since (t : TypistIx) := (s.typist t).idleSince.getD 0
  w a < w b || (w a = w b && since a < since b)

/-- The typist that a take of the first walk is put to: the preferred one of those eligible, the lowest
number among equals (R108). -/
def State.chosenIdle (s : State) (k : Take) : Option TypistIx :=
  firstBest (s.preferred k) ((List.finRange 48).filter (fun t => s.eligible t k))

/-- What an OFFER or SWITCH shows of a take as it stands (R109). -/
def State.offerFields (s : State) (i : TakeIx) : OfferFields where
  handle := s.handleOf i
  level := (s.take i).level
  cls := (s.take i).cls.getD .ordinary
  quals := (s.take i).quals
  length := (s.take i).length
  typedTo := (s.take i).typedTo
  deadline := (s.take i).deadline.getD 0
  latestStart := (s.take i).latestStart.getD 0
  status := (s.take i).status
  timeout := s.params.offerTimeout

/-- CLOSED to OFFERED: the typist is named and the entry leaves the queue, its serial kept; the roster
records the pending take and the offer timer starts (R6, R109, R118). -/
def State.putTo (s : State) (t : TypistIx) (i : TakeIx) (kind : PendingKind) (next : TypistState) :
    State :=
  ((s.modTake i (fun k => { k with state := .offered, typist := some t })).dequeue i).modTypist t
    (fun r =>
      { r with
        pending := some ⟨i, kind⟩
        state := next
        idleSince := none
        offerTimer := some s.params.offerTimeout })

/-- An offer to an idle typist, with its OFFER message (R109). -/
def State.makeOffer (s : State) (t : TypistIx) (i : TakeIx) : State :=
  (s.putTo t i .offer .offered).queueControl (typistDrop t) (.offer (s.offerFields i))

/-- A switch put to a working typist, with its SWITCH message naming the take it would park (R118). -/
def State.makeSwitch (s : State) (t : TypistIx) (i : TakeIx) (parks : TakeIx) : State :=
  (s.putTo t i .switch .switching).queueControl (typistDrop t)
    (.switch (s.offerFields i) (s.handleOf parks))

/-- The first walk: each entry in order is offered to the chosen idle typist, if any (R108). -/
def State.firstWalk (s : State) : List QueueEntry → State
  | [] => s
  | e :: es =>
    match s.chosenIdle (s.take e.take) with
    | none => s.firstWalk es
    | some t => (s.makeOffer t e.take).firstWalk es

/-- The current take of a typist that is a preemption candidate for a rush take: WORKING, no parked take,
not away, its current take not RUSH, and the last four conditions of R107 (R117). -/
def State.candidate (s : State) (k : Take) (t : TypistIx) : Option TakeIx :=
  let r := s.typist t
  if decide (r.state = .working) && r.parked.isNone && !r.away && s.mayHear t k then
    r.current.filter (fun i => (s.take i).cls ≠ some .rush)
  else none

/-- The preemption candidates for a rush take, in ascending number, each with its current take. -/
def State.candidates (s : State) (k : Take) : List (TypistIx × TakeIx) :=
  (List.finRange 48).filterMap (fun t => (s.candidate k t).map (fun i => (t, i)))

/-- Whether candidate `a` is preferred to `b`: the larger latest start of its current take (R117). -/
def State.laterStart (s : State) (a b : TypistIx × TakeIx) : Bool :=
  (s.take b.2).latestStart.getD 0 < (s.take a.2).latestStart.getD 0

/-- A RUSH entry that found no candidate raises RUSH-WAITING once in its stay in the queue (R121). -/
def State.rushWaits (s : State) (i : TakeIx) : State :=
  if s.queue.any (fun e => decide (e.take = i) && !e.rushWaiting) then
    ({ s with
      queue := s.queue.map (fun e =>
        if e.take = i then { e with rushWaiting := true } else e) } : State).raise .rushWaiting
  else s

/-- The second walk: each RUSH entry left waiting is switched to the best candidate, or waits (R117,
R121). -/
def State.secondWalk (s : State) : List QueueEntry → State
  | [] => s
  | e :: es =>
    match firstBest s.laterStart (s.candidates (s.take e.take)) with
    | none => (s.rushWaits e.take).secondWalk es
    | some (t, parks) => (s.makeSwitch t e.take parks).secondWalk es

/-- One placement pass: the first walk over the queue, then the second over the RUSH entries that it has
left (R106). -/
def State.placementPass (s : State) : State :=
  let walked := s.firstWalk s.queue
  walked.secondWalk (walked.queue.filter (fun e => e.cls = .rush))

/-- The state with the placement pass taken that its last event has triggered. Every command but RESET is
taken from here: "the pass is taken after the event that triggered it is complete, so it sees every
record as that event has left it" (R106; log entry 2). -/
def State.settled (s : State) : State :=
  if s.passDue then { s.placementPass with passDue := false } else s

end Sys2Proof.Machine
end

