-- ==== Sys2Proof/Machine/Intake.lean ====
section
/-!
DEFINITION. How a request reaches its owner and how its answer goes out: the intake of the drop link
(R152, R153) and the request slot of the supervisor port (R157 to R160).
-/

namespace Sys2Proof.Machine

/-- What an owner answers: everything of an `Answer` but the request code. -/
structure Result where
  status : AnswerStatus
  clamped : Bool
  own : Bool
  asked : Bool
  fields : List Field
deriving DecidableEq, Repr

/-- OK with result fields, and CLAMPED where a value of the request was clamped. -/
def Result.ok (clamped : Bool) (fields : List Field) : Result := ⟨.ok, clamped, false, false, fields⟩

/-- A status other than OK, without result fields (log entry 14). -/
def Result.of (st : AnswerStatus) : Result := ⟨st, false, false, false, []⟩

/-- FULL, with the fields its rule still gives and CLAMPED where a value of the request was clamped. -/
def Result.full (clamped : Bool) (fields : List Field) : Result := ⟨.full, clamped, false, false, fields⟩

/-- A refused request: the status answered, and nothing changed (R17). -/
def refuse (st : AnswerStatus) (s : State) : Result × State := (.of st, s)

/-- A clearance refused under the lock: GUARDED, with CLAMPED where the clearance compared had been brought
into its range, and nothing changed (R138, R139; log entry 14). -/
def refuseRaise (clamped : Bool) (s : State) : Result × State := (⟨.guarded, clamped, false, false, []⟩, s)

/-- The answer to a request code. -/
def Result.toAnswer (r : Result) (code : Nat) : Answer :=
  ⟨code, r.status, r.clamped, r.own, r.asked, r.fields⟩

/-! ## The drop link -/

/-- Queues an ANSWER at a drop (R152, R153). -/
def State.answerDrop (s : State) (d : DropIx) (code : Nat) (r : Result) : State :=
  s.queueControl d (.answer (r.toAnswer code))

/-- Carries out an owner's work on a drop's request and queues its ANSWER. -/
def answered (d : DropIx) (code : Nat) (work : State → Result × State) (s : State) : State :=
  (work s).2.answerDrop d code (work s).1

/-- A request taken from a typist is activity, whatever its answer (R69). -/
def State.requestActivity (s : State) (d : DropIx) : State :=
  match dropRole d with
  | .console _ => s
  | .typist t => s.activity t

/-- A request discarded at intake: not taken, not answered, the link error count raised (R152). -/
def State.discardRequest (s : State) (d : DropIx) : State :=
  s.modDrop d (fun r => { r with linkErrors := bump Config.topWord r.linkErrors })

/-- The intake of a request that a good reply of a drop carries: discarded while an ANSWER waits unsent,
otherwise taken (R152). -/
def intake (d : DropIx) (handle : State → State) (s : State) : State :=
  if s.answerWaits d then s.discardRequest d else handle (s.requestActivity d)

/-- A station's request as a command of its own: the request of a reply that has made the drop PRESENT
reaches intake. From a drop that is not PRESENT no request is taken (R27, R147, R151; log entry 5). -/
def station (d : DropIx) (handle : State → State) (s : State) : State :=
  if (s.settled.drop d).state = .present then intake d handle s.settled else s.settled

/-! ## The supervisor port -/

/-- Puts a response into the buffer: the slot waits to be read and READY is high (R157, R158). -/
def State.respond (s : State) (a : Answer) : State := { s with slot := .responseWaiting a }

/-- A host request as a command of its own, handed to its owner when the slot is IN-PROGRESS with it. On
an EMPTY slot it stands for the writing of its frame and its taking together; on a busy slot it is a
frame written too early, ignored with SUPERVISOR-OVERRUN raised (R157, R158, R160; log entry 4). -/
def host (i : Instr) (work : State → Result × State) (s : State) : State :=
  let s := s.settled
  if s.slot = .empty ∨ s.slot = .inProgress i then
    (work s).2.respond ((work s).1.toAnswer (requestCode i))
  else s.raise .supervisorOverrun

/-- Who asks, as a request of either line: a host's request goes through the slot, a station's through
the intake of its drop. -/
def asked (a : Asker) (i : Instr) (work : State → Result × State) (s : State) : State :=
  match a with
  | .host => host i work s
  | .console c => station (consoleDrop c) (answered (consoleDrop c) (requestCode i) work) s
  | .typist t => station (typistDrop t) (answered (typistDrop t) (requestCode i) work) s

end Sys2Proof.Machine
end

