-- ==== Sys2Proof/Machine/ArbiterRequests.lean ====
section
/-!
DEFINITION. The arbiter's requests: ACCEPT and DECLINE from a typist, RUSH from a console, SET-DEADLINE and
SET-CLASS from the host (R91, R92, R110, R111, R119, R120, R128 to R133).
-/

namespace Sys2Proof.Machine

/-! ## ACCEPT and DECLINE -/

/-- The working context that an accept builds from typed-to (R68, R110). -/
def freshContext (k : Take) (now : Nat) : Context where
  position := k.typedTo
  cursor := firstAtOrAbove k.typedTo k.marks
  work := 0
  base := k.typedTo
  lastActivity := now
  notes := 0

/-- OFFERED to TYPING: the exclusion list emptied, the take current with a fresh context, the timer and the
pending take absent, the typist WORKING, the latest start by the typist's ratio (R7, R110). -/
def State.beginTyping (s : State) (t : TypistIx) (i : TakeIx) : State :=
  ((s.modTake i (fun k => { k with state := .typing, exclusion := [] })).modTypist t (fun r =>
    { r with
      pending := none
      offerTimer := none
      current := some i
      state := .working
      context := some (freshContext (s.take i) s.officeTime) })).recompute i

/-- TYPING to PARKED: the context saved as the exchange package, the take the typist's parked take, its
unsent CUEs removed (R9, R119). -/
def State.parkCurrent (s : State) (t : TypistIx) (i : TakeIx) : State :=
  ((s.modTake i (fun k =>
    { k with state := .parked, package := (s.typist t).context.map Context.toPackage })).modTypist t
      (fun r => { r with parked := some i })).removeOut (typistDrop t) (·.cues (s.handleOf i))

/-- The answer fields of an accepted offer: handle, length, typed-to, position and cursor (R110). -/
def State.acceptFields (s : State) (t : TypistIx) (i : TakeIx) : List Field :=
  let c := (s.typist t).context
  [.handle (s.handleOf i), .half (s.take i).length, .half (s.take i).typedTo,
    .half ((c.map (·.position)).getD 0), .small ((c.map (·.cursor)).getD 0)]

/-- The answer fields of an accepted SWITCH: handle, typed-to, position, cursor and the take parked
(R119). -/
def State.switchFields (s : State) (t : TypistIx) (i parked : TakeIx) : List Field :=
  let c := (s.typist t).context
  [.handle (s.handleOf i), .half (s.take i).typedTo, .half ((c.map (·.position)).getD 0),
    .small ((c.map (·.cursor)).getD 0), .handle (s.handleOf parked)]

/-- ACCEPT (R110, R119). DESIGN CHOICE, unsafe: an OFFER or SWITCH of the take that is still unsent stays in the
drop's queue and is sent later, since R154 removes it at the ends of R112 and R114 alone (log entry 31). DESIGN
CHOICE, unsafe: a repeated ACCEPT of the current take is answered with the five fields of R110, also where the
take was accepted as a SWITCH and its first answer had the fields of R119 (log entry 32). -/
def acceptWork (t : TypistIx) (h : Half) (s : State) : Result × State :=
  let r := s.typist t
  if r.state = .off then refuse .wrongState s
  else
    match s.resolve h with
    | none => refuse .stale s
    | some i =>
      if r.pending.map (·.take) = some i then
        match r.pending, r.current with
        | some ⟨_, .switch⟩, some old =>
          let s' := (s.parkCurrent t old).beginTyping t i
          (.ok false (s'.switchFields t i old), s')
        | _, _ =>
          let s' := s.beginTyping t i
          (.ok false (s'.acceptFields t i), s')
      else if r.current = some i ∧ (s.take i).state = .typing then
        (.ok false (s.acceptFields t i), s)
      else refuse .expired s

/-- ACCEPT as a request of its typist. -/
def acceptRequest (t : TypistIx) (h : Half) : State → State :=
  answered (typistDrop t) 0x28 (acceptWork t h)

/-- ACCEPT (R110, R119). -/
def execAccept (t : TypistIx) (h : Half) (s : State) : Host.Outcome State Fault Refusal :=
  .next (station (typistDrop t) (acceptRequest t h) s)

/-- DECLINE (R111, R120). DESIGN CHOICE, unsafe: an OFFER or SWITCH of the take that is still unsent stays in
the drop's queue and is sent later (R154; log entry 31). -/
def declineWork (t : TypistIx) (h : Half) (s : State) : Result × State :=
  if (s.typist t).state = .off then refuse .wrongState s
  else
    match s.resolve h with
    | none => refuse .stale s
    | some i =>
      if (s.typist t).pending.map (·.take) = some i then
        (.ok false [.handle (s.handleOf i)], (s.offerReturns i (some t)).offerEnds t)
      else refuse .expired s

/-- DECLINE as a request of its typist. -/
def declineRequest (t : TypistIx) (h : Half) : State → State :=
  answered (typistDrop t) 0x29 (declineWork t h)

/-- DECLINE (R111). -/
def execDecline (t : TypistIx) (h : Half) (s : State) : Host.Outcome State Fault Refusal :=
  .next (station (typistDrop t) (declineRequest t h) s)

/-! ## RUSH -/

/-- Applies the rush deadline rule to a take's record (R90). -/
def State.applyRush (s : State) (i : TakeIx) : State := s.setTake i (s.rushRule (s.take i))

/-- A parked take leaves its typist's parked slot (R80). -/
def State.emptyParked (s : State) : Option TypistIx → State
  | none => s
  | some t => s.modTypist t (fun r => { r with parked := none })

/-- The effect of a RUSH on a take, by its state (R129 to R133). -/
def State.rushTake (s : State) (i : TakeIx) : State :=
  match (s.take i).state with
  | .opened => s.modTake i (fun k => { k with rushPending := true })
  | .closed =>
    let moved := ((s.applyRush i).recompute i).moveEntry i
    if (s.take i).cls = some .rush then moved else moved.triggerPass
  | .offered | .typing => (s.applyRush i).recompute i
  | .parked => ((s.applyRush i).heldReturns i).emptyParked (s.take i).typist
  | .free | .returned | .certified => s

/-- The answer fields of a RUSH, as the request leaves the take (R128). -/
def State.rushFields (s : State) (i : TakeIx) : List Field :=
  let k := s.take i
  [.handle (s.handleOf i), .small k.state.code, .small (k.cls.getD .ordinary).rank] ++
    optional k.deadline (fun n => [.quad n]) ++ optional k.latestStart (fun n => [.quad n]) ++
    [.small k.status.code, .flag k.rushPending]

/-- RUSH (R128). -/
def rushWork (c : ConsoleIx) (h : Half) (s : State) : Result × State :=
  match s.boundTo c with
  | none => refuse .noSession s
  | some x =>
    match s.resolve h with
    | none => refuse .stale s
    | some i =>
      if (s.take i).state = .certified then refuse .guarded s
      else if (s.take i).state = .returned then refuse .wrongState s
      else if (s.take i).session ≠ some x then refuse .denied s
      else (.ok false ((s.rushTake i).rushFields i), s.rushTake i)

/-- RUSH as a request of its console. -/
def rushRequest (c : ConsoleIx) (h : Half) : State → State :=
  answered (consoleDrop c) 0x0A (rushWork c h)

/-- RUSH (R128). -/
def execRush (c : ConsoleIx) (h : Half) (s : State) : Host.Outcome State Fault Refusal :=
  .next (station (consoleDrop c) (rushRequest c h) s)

/-! ## SET-DEADLINE and SET-CLASS -/

/-- SET-DEADLINE on a take: the deadline, the latest start and status, and a CLOSED take's place (R91). -/
def State.setDeadline (s : State) (i : TakeIx) (d : Nat) : State :=
  let s' := (s.modTake i (fun k => { k with deadline := some d })).recompute i
  if (s.take i).state = .closed then s'.moveEntry i else s'

/-- SET-DEADLINE (R91). -/
def setDeadlineWork (h : Half) (d : Quad) (s : State) : Result × State :=
  match s.resolve h with
  | none => refuse .stale s
  | some i =>
    if (s.take i).state = .certified then refuse .guarded s
    else if !(s.take i).state.watched then refuse .wrongState s
    else
      let s' := s.setDeadline i d.toNat
      (.ok false [.quad d.toNat, .quad ((s'.take i).latestStart.getD 0),
        .small (s'.take i).status.code], s')

/-- SET-DEADLINE (R91). -/
def execSetDeadline (h : Half) (d : Quad) (s : State) : Host.Outcome State Fault Refusal :=
  .next (host (.setDeadline h d) (setDeadlineWork h d) s)

/-- A class other than RUSH set on a take: an OPEN take's rush pending becomes no, a CLOSED take's entry is
moved, everything else is kept; a class that a take past OPEN already has changes nothing (R92). -/
def State.setPlainClass (s : State) (i : TakeIx) (c : TakeClass) : State :=
  if (s.take i).state = .opened then
    s.modTake i (fun k => { k with cls := some c, rushPending := false })
  else if (s.take i).cls = some c then s
  else
    let s' := s.modTake i (fun k => { k with cls := some c })
    if (s.take i).state = .closed then s'.moveEntry i else s'

/-- SET-CLASS: RUSH as a console's RUSH would be, another class by R92 (R92, R128; log entry 16). -/
def setClassWork (h : Half) (cls : Byte) (s : State) : Result × State :=
  match s.resolve h with
  | none => refuse .stale s
  | some i =>
    if (s.take i).state = .certified then refuse .guarded s
    else if (s.take i).state = .returned then refuse .wrongState s
    else
      let c := TakeClass.ofByte cls
      let s' := if c = .rush then s.rushTake i else s.setPlainClass i c
      (.ok (3 < cls.toNat) (.small ((s'.take i).cls.getD .ordinary).rank ::
        optional (s'.take i).deadline (fun n => [.quad n])), s')

/-- SET-CLASS (R92). -/
def execSetClass (h : Half) (cls : Byte) (s : State) : Host.Outcome State Fault Refusal :=
  .next (host (.setClass h cls) (setClassWork h cls) s)

end Sys2Proof.Machine
end

