-- ==== Sys2Proof/Machine/TypistRequests.lean ====
section
/-!
DEFINITION. The roster's requests: SIGN-ON, SIGN-OFF, CHECKPOINT, QUERY, DONE and RELEASE from a typist,
and READ-TYPIST from the host (chapter 4, R65 to R79, R86; R100 to R102).
-/

namespace Sys2Proof.Machine

/-- The take that a request on the typist's current take names, after the checks of R67: not OFF, a handle
that is current, and the take the typist's current one. -/
def State.ownTake (s : State) (t : TypistIx) (h : Half) : Except AnswerStatus TakeIx :=
  if (s.typist t).state = .off then .error .wrongState
  else
    match s.resolve h with
    | none => .error .stale
    | some i => if (s.typist t).current = some i then .ok i else .error .wrongState

/-! ## SIGN-ON and SIGN-OFF -/

/-- SIGN-ON: an OFF typist becomes IDLE; from any other state nothing changes (R65). -/
def signOnWork (t : TypistIx) (s : State) : Result × State :=
  if (s.typist t).state = .off then (.ok false [.small TypistState.idle.code], s.becomeIdle t)
  else (.ok false [.small (s.typist t).state.code], s)

/-- SIGN-ON as a request of its typist. -/
def signOnRequest (t : TypistIx) : State → State := answered (typistDrop t) 0x21 (signOnWork t)

/-- SIGN-ON (R65). -/
def execSignOn (t : TypistIx) (s : State) : Host.Outcome State Fault Refusal :=
  .next (station (typistDrop t) (signOnRequest t) s)

/-- The handles that a sign-off gives up: pending, current and parked, each present or absent (R66). -/
def State.heldFields (s : State) (t : TypistIx) : List Field :=
  let r := s.typist t
  optional (r.pending.map (·.take)) (fun i => [.handle (s.handleOf i)]) ++
    optional r.current (fun i => [.handle (s.handleOf i)]) ++
    optional r.parked (fun i => [.handle (s.handleOf i)])

/-- SIGN-OFF: every take given up, the drop's queue emptied, the typist OFF (R66). -/
def signOffWork (t : TypistIx) (s : State) : Result × State :=
  if (s.typist t).state = .off then refuse .wrongState s
  else (.ok false (s.heldFields t), (s.signOffRecord t).setOut (typistDrop t) [])

/-- SIGN-OFF as a request of its typist: the ANSWER is queued in the removed messages' place. -/
def signOffRequest (t : TypistIx) : State → State := answered (typistDrop t) 0x22 (signOffWork t)

/-- SIGN-OFF (R66). -/
def execSignOff (t : TypistIx) (s : State) : Host.Outcome State Fault Refusal :=
  .next (station (typistDrop t) (signOffRequest t) s)

/-! ## The ratio sample -/

/-- The ratio after a sample of `e` work seconds over an advance of `a` tenths (R100). -/
def sampledRatio (r e a : Nat) : Nat :=
  (3 * r + clampTo Config.lowRatio Config.topRatio (e * Config.workUnit / a) + 2) / 4

/-- Takes the ratio sample of a checkpoint at `p`: for an advance of at least 300 tenths the ratio moves,
the sample base becomes `p` and the work seconds 0 (R100). -/
def State.takeSample (s : State) (t : TypistIx) (p : Nat) : State :=
  match (s.typist t).context with
  | none => s
  | some c =>
    if p - c.base < Config.sampleAdvance then s
    else s.modTypist t (fun r =>
      { r with
        ratio := sampledRatio r.ratio c.work (p - c.base)
        context := some { c with base := p, work := 0 } })

/-- Recomputes a typist's take where it holds one (R102). -/
def State.recomputeSome (s : State) : Option TakeIx → State
  | none => s
  | some i => s.recompute i

/-- The sample with what a change of the ratio brings: the current and the parked take are recomputed
(R102; log entry 20). -/
def State.sampleWithTakes (s : State) (t : TypistIx) (p : Nat) : State :=
  let s' := s.takeSample t p
  if (s'.typist t).ratio = (s.typist t).ratio then s'
  else (s'.recomputeSome (s.typist t).current).recomputeSome (s.typist t).parked

/-! ## CHECKPOINT, QUERY, DONE, RELEASE -/

/-- CHECKPOINT (R75, R100). -/
def checkpointWork (t : TypistIx) (h p : Half) (s : State) : Result × State :=
  match s.ownTake t h with
  | .error st => refuse st s
  | .ok i =>
    let k := s.take i
    let clamped : Bool := k.length < p.toNat
    let goal := min k.length p.toNat
    if goal ≤ k.typedTo then (.ok clamped [.half k.typedTo], s)
    else
      let s' := ((s.modTake i (fun k => { k with typedTo := goal })).sampleWithTakes t goal).recompute i
      (.ok clamped [.half goal, .small (s'.typist t).ratio], s')

/-- CHECKPOINT as a request of its typist. -/
def checkpointRequest (t : TypistIx) (h p : Half) : State → State :=
  answered (typistDrop t) 0x23 (checkpointWork t h p)

/-- CHECKPOINT (R75). -/
def execCheckpoint (t : TypistIx) (h p : Half) (s : State) : Host.Outcome State Fault Refusal :=
  .next (station (typistDrop t) (checkpointRequest t h p) s)

/-- A QUERY is stored: the open-query count rises and QUERY-RAISED is raised (R56). -/
def State.countQuery (s : State) (i : TakeIx) : State :=
  (s.modTake i (fun k => { k with openQueries := bump Config.topCount k.openQueries })).raise
    .queryRaised

/-- QUERY (R56, R76). -/
def queryWork (t : TypistIx) (h : Half) (offset : Option Half) (speaker : Option Byte)
    (label : Option Text) (s : State) : Result × State :=
  match s.ownTake t h with
  | .error st => refuse st s
  | .ok i =>
    match labelIntake label with
    | none => refuse .unknown s
    | some (l, cut) =>
      let k := s.take i
      let given := (offset.map BitVec.toNat).getD
        (((s.typist t).context.map (fun c => c.position)).getD 0)
      let at_ := min k.length given
      let clamped := cut || (speakerIntake speaker).2 || (offset.isSome && k.length < given)
      match s.insertMark i ⟨at_, .query, (speakerIntake speaker).1, l, .typist t, none⟩ false with
      | (.lost, s') => (.full clamped [], s')
      | (.duplicate m, s') => (.ok clamped [.half m.val, .half at_], s')
      | (.stored m, s') => (.ok clamped [.half m.val, .half at_], s'.countQuery i)

/-- QUERY as a request of its typist. -/
def queryRequest (t : TypistIx) (h : Half) (offset : Option Half) (speaker : Option Byte)
    (label : Option Text) : State → State :=
  answered (typistDrop t) 0x24 (queryWork t h offset speaker label)

/-- QUERY (R76). -/
def execQuery (t : TypistIx) (h : Half) (offset : Option Half) (speaker : Option Byte)
    (label : Option Text) (s : State) : Host.Outcome State Fault Refusal :=
  .next (station (typistDrop t) (queryRequest t h offset speaker label) s)

/-- Queues a RESUME for a typist's current take behind every control message that waits at its PRESENT drop.
A hand-off message that waits unsent, of which a queue holds one at most, is removed first without being
counted (R122, R153; log entry 17). -/
def State.queueResumeLast (s : State) (t : TypistIx) : State :=
  if !s.typistPresent t then s
  else match s.resumeMessage t with
    | none => s
    | some m => (s.removeOut (typistDrop t) Message.isHandOff).queueControl (typistDrop t) m

/-- Queues the ANSWER of a DONE or RELEASE and, behind it, the RESUME of a resumed take (R79, R122). -/
def State.answerThenResume (s : State) (t : TypistIx) (code : Nat) (r : Result) (resumed : Bool) :
    State :=
  let s' := s.answerDrop (typistDrop t) code r
  if resumed then s'.queueResumeLast t else s'

/-- TYPING to RETURNED: latest start absent, status NONE, RETURNED raised; typist, serial and deadline kept
(R12). -/
def State.returnTake (s : State) (i : TakeIx) : State :=
  (s.modTake i (fun k =>
    { k with latestStart := none, status := .noStatus, state := .returned })).raise .returned

/-- DONE as a request of its typist: typed-to to the length, the last sample, the return, the typist's next
state, the ANSWER and the RESUME (R12, R77, R79, R101). -/
def doneRequest (t : TypistIx) (h : Half) (s : State) : State :=
  match s.ownTake t h with
  | .error st => s.answerDrop (typistDrop t) 0x25 (.of st)
  | .ok i =>
    let full := s.modTake i (fun k => { k with typedTo := k.length })
    let r := ((full.sampleWithTakes t (s.take i).length).returnTake i).currentLeaves t i
    r.2.answerThenResume t 0x25
      (.ok false [.handle (s.handleOf i), .small (r.2.typist t).ratio]) r.1

/-- DONE (R77). -/
def execDone (t : TypistIx) (h : Half) (s : State) : Host.Outcome State Fault Refusal :=
  .next (station (typistDrop t) (doneRequest t h) s)

/-- RELEASE as a request of its typist: the take back to CLOSED with a new serial and typed-to kept, no
sample, the typist's next state, the ANSWER and the RESUME (R11, R78, R79). -/
def releaseRequest (t : TypistIx) (h : Half) (s : State) : State :=
  match s.ownTake t h with
  | .error st => s.answerDrop (typistDrop t) 0x26 (.of st)
  | .ok i =>
    let r := (s.heldReturns i).currentLeaves t i
    r.2.answerThenResume t 0x26 (.ok false [.handle (s.handleOf i)]) r.1

/-- RELEASE (R78). -/
def execRelease (t : TypistIx) (h : Half) (s : State) : Host.Outcome State Fault Refusal :=
  .next (station (typistDrop t) (releaseRequest t h) s)

/-! ## READ-TYPIST -/

/-- The answer fields of READ-TYPIST in the order of R86. -/
def State.typistFields (s : State) (t : TypistIx) : List Field :=
  let r := s.typist t
  [.small (number t), .small r.state.code, .small r.clearance.val, .small r.quals.code,
    .small r.ratio] ++
    optional r.current (fun i => [.handle (s.handleOf i)]) ++
    optional r.parked (fun i => [.handle (s.handleOf i)]) ++
    optional r.pending (fun p => [.handle (s.handleOf p.take), .small p.kind.code]) ++
    optional r.offerTimer (fun n => [.half n]) ++ [.flag r.away] ++
    optional r.grace (fun n => [.half n]) ++ optional r.idleSince (fun n => [.quad n]) ++
    optional r.context (fun c =>
      [.half c.position, .small c.cursor, .half c.work, .half c.base, .quad c.lastActivity,
        .small c.notes]) ++
    [.small r.cuesDropped, .small r.offersMissed]

/-- READ-TYPIST (R86). -/
def readTypistWork (n : Byte) (s : State) : Result × State :=
  match numbered 48 n with
  | none => refuse .unknown s
  | some t => (.ok false (s.typistFields t), s)

/-- READ-TYPIST (R86). -/
def execReadTypist (n : Byte) (s : State) : Host.Outcome State Fault Refusal :=
  .next (host (.readTypist n) (readTypistWork n) s)

end Sys2Proof.Machine
end

