-- ==== Sys2Proof/Machine/Clearance.lean ====
section
/-!
DEFINITION. The clearance unit: PROBE, SET-CONSOLE, LOCK-CLEARANCE, RELEVEL, SET-TYPIST, and the audit
(chapter 8, R134 to R144; R85).
-/

namespace Sys2Proof.Machine

/-! ## PROBE -/

/-- The asker's effective clearance: a drop's by R135, the supervisor's the smaller of 3 and Q. -/
def State.askerClearance (s : State) (a : Asker) (q : Level) : Level :=
  match a with
  | .host => q
  | .console c => s.effective (consoleDrop c) q
  | .typist t => s.effective (typistDrop t) q

/-- Whether the asker is the typist whose current take it is (R135). -/
def State.owns (s : State) (a : Asker) (i : TakeIx) : Bool :=
  match a with
  | .typist t => (s.typist t).current = some i
  | _ => false

/-- The states in which a console may change a take of its session (R137). -/
def TakeState.consoleMayChange : TakeState → Bool
  | .opened | .closed | .offered | .typing | .parked => true
  | .free | .returned | .certified => false

/-- The listen-allowed indication (R137). -/
def State.listenAllowed (s : State) (a : Asker) (q : Level) (i : TakeIx) : Bool :=
  s.owns a i || decide ((s.take i).level ≤ s.askerClearance a q)

/-- The change-allowed indication (R137). -/
def State.changeAllowed (s : State) (a : Asker) (q : Level) (i : TakeIx) : Bool :=
  s.listenAllowed a q i && decide ((s.take i).state ≠ .certified) &&
    match a with
    | .host => true
    | .typist _ => s.owns a i && decide ((s.take i).state = .typing)
    | .console c =>
      (s.boundTo c).isSome && decide (s.boundTo c = (s.take i).session) &&
        (s.take i).state.consoleMayChange

/-- The indications byte of a PROBE: exists, listen-allowed, change-allowed (R166). -/
def probeByte (listen change : Bool) : Nat := 1 + 2 * listen.toNat + 4 * change.toNat

/-- PROBE (R137). -/
def probeWork (a : Asker) (h : Half) (q : Option Byte) (s : State) : Result × State :=
  match s.resolve h with
  | none => (.ok (requestLevelClamps q) [.small 0], s)
  | some i =>
    (.ok (requestLevelClamps q)
      [.small (probeByte (s.listenAllowed a (requestLevel q) i)
        (s.changeAllowed a (requestLevel q) i))], s)

/-- PROBE as a request of a console. -/
def probeConsoleRequest (c : ConsoleIx) (h : Half) (q : Option Byte) : State → State :=
  answered (consoleDrop c) 0x0B (probeWork (.console c) h q)

/-- PROBE as a request of a typist. -/
def probeTypistRequest (t : TypistIx) (h : Half) (q : Option Byte) : State → State :=
  answered (typistDrop t) 0x2A (probeWork (.typist t) h q)

/-- PROBE (R137). -/
def execProbe (a : Asker) (h : Half) (q : Option Byte) (s : State) :
    Host.Outcome State Fault Refusal :=
  .next (asked a (.probeTake a h q) (probeWork a h q) s)

/-! ## SET-CONSOLE and LOCK-CLEARANCE -/

/-- SET-CONSOLE (R138, R141). -/
def setConsoleWork (n clearance : Byte) (s : State) : Result × State :=
  match numbered 24 n with
  | none => refuse .unknown s
  | some c =>
    if s.clearanceLock ∧ s.clearance (consoleDrop c) < levelOf clearance then
      refuseRaise (levelClamps clearance) s
    else
      (.ok (levelClamps clearance) [.small (levelOf clearance).val],
        s.setClearance (consoleDrop c) (levelOf clearance))

/-- SET-CONSOLE (R138). -/
def execSetConsole (n clearance : Byte) (s : State) : Host.Outcome State Fault Refusal :=
  .next (host (.setConsole n clearance) (setConsoleWork n clearance) s)

/-- LOCK-CLEARANCE (R141). -/
def lockClearanceWork (s : State) : Result × State := (.ok false [], { s with clearanceLock := true })

/-- LOCK-CLEARANCE (R141). -/
def execLockClearance (s : State) : Host.Outcome State Fault Refusal :=
  .next (host .lockClearance lockClearanceWork s)

/-! ## RELEVEL -/

/-- Whether a RELEVEL that has raised a take puts it out of its holder's reach: above the typist's recorded
clearance, or offered while an audit failure stands (R136, R140, R143). -/
def State.outOfReach (s : State) (i : TakeIx) (raised : Bool) : Bool :=
  let k := s.take i
  (match k.typist with
    | none => false
    | some t => decide ((s.typist t).clearance < k.level)) ||
    (raised && s.auditFailure && decide (k.state = .offered))

/-- RELEVEL's effect: the level raised, and the take withdrawn from a holder who may no longer hear it
(R140). A take that no typist holds is left where it is. -/
def State.relevel (s : State) (i : TakeIx) (l : Level) : State :=
  let s' := s.modTake i (Take.relevelled l)
  if s'.outOfReach i ((s.take i).level < l) then s'.withdrawHeld i else s'

/-- RELEVEL (R140). -/
def relevelWork (h : Half) (level : Byte) (s : State) : Result × State :=
  match s.resolve h with
  | none => refuse .stale s
  | some i =>
    if (s.take i).state = .certified then refuse .guarded s
    else
      let s' := s.relevel i (levelOf level)
      (.ok (levelClamps level || decide (levelOf level < (s.take i).level))
        [.small (s'.take i).level.val, .small (s'.take i).state.code], s')

/-- RELEVEL (R140). -/
def execRelevel (h : Half) (level : Byte) (s : State) : Host.Outcome State Fault Refusal :=
  .next (host (.relevel h level) (relevelWork h level) s)

/-! ## SET-TYPIST -/

/-- Withdraws every held take that a typist's clearance and qualifications no longer cover: pending, then
parked, then current (R115, R136). -/
def State.withdrawUncovered (s : State) (t : TypistIx) : State :=
  let uncovered (s : State) (i : TakeIx) : Bool := !(s.typist t).coversTake (s.take i)
  let s1 := match (s.typist t).pending with
    | none => s
    | some p => if uncovered s p.take then s.withdrawPending t true else s
  let s2 := match (s1.typist t).parked with
    | none => s1
    | some i => if uncovered s1 i then s1.withdrawParked t else s1
  match (s2.typist t).current with
  | none => s2
  | some i => if uncovered s2 i then s2.withdrawCurrent t else s2

/-- The ratio part of SET-TYPIST: clamped, and the current and parked takes recomputed (R85, R102). -/
def State.setRatio (s : State) (t : TypistIx) : Option Byte → State
  | none => s
  | some b =>
    let s' := s.modTypist t (fun r =>
      { r with ratio := clampTo Config.lowRatio Config.topRatio b.toNat })
    (s'.recomputeSome (s.typist t).current).recomputeSome (s.typist t).parked

/-- The clearance that SET-TYPIST leaves. -/
def State.newClearance (s : State) (t : TypistIx) (clearance : Option Byte) : Level :=
  (clearance.map levelOf).getD (s.clearance (typistDrop t))

/-- The qualification set that SET-TYPIST leaves. -/
def State.newQuals (s : State) (t : TypistIx) (quals : Option Byte) : Quals :=
  (quals.map Quals.ofByte).getD (s.typist t).quals

/-- The parts of SET-TYPIST applied: ratio, qualifications, clearance; then the withdrawals on a loss and
the pass on a gain (R85, R139). -/
def State.applyTypist (s : State) (t : TypistIx) (clearance quals ratio : Option Byte) : State :=
  let l := s.newClearance t clearance
  let q := s.newQuals t quals
  let old := s.typist t
  let was := s.clearance (typistDrop t)
  let set := ((s.setRatio t ratio).modTypist t (fun r => { r with quals := q })).setClearance
    (typistDrop t) l
  let kept := if l < was ∨ !q.covers old.quals then set.withdrawUncovered t else set
  if was < l ∨ !old.quals.covers q then kept.triggerPass else kept

/-- SET-TYPIST (R85, R139, R141). -/
def setTypistWork (n : Byte) (clearance quals ratio : Option Byte) (s : State) : Result × State :=
  match numbered 48 n with
  | none => refuse .unknown s
  | some t =>
    if s.clearanceLock ∧ s.clearance (typistDrop t) < s.newClearance t clearance then
      refuseRaise (requestLevelClamps clearance) s
    else
      let s' := s.applyTypist t clearance quals ratio
      let r := s'.typist t
      (.ok (requestLevelClamps clearance ||
          (ratio.map (fun b => clamps Config.lowRatio Config.topRatio b.toNat)).getD false)
        [.small r.clearance.val, .small r.quals.code, .small r.ratio], s')

/-- SET-TYPIST (R85). -/
def execSetTypist (n : Byte) (clearance quals ratio : Option Byte) (s : State) :
    Host.Outcome State Fault Refusal :=
  .next (host (.setTypist n clearance quals ratio) (setTypistWork n clearance quals ratio) s)

/-! ## The audit -/

/-- The audit sum: the clearance of each drop times its number (R142). -/
def State.auditSum (s : State) : Nat :=
  ((List.finRange 72).map (fun d => (s.clearance d).val * number d)).sum

/-- Withdraws a typist's outstanding offer of a take above level 0 (R143). -/
def State.withdrawSealedOffer (s : State) (t : TypistIx) : State :=
  match (s.typist t).pending with
  | none => s
  | some p => if 0 < (s.take p.take).level then s.withdrawPending t true else s

/-- An audit: its sum stored, a failure begun or ended by the comparison (R142, R143, R144). -/
def State.audit (s : State) : State :=
  let summed := { s with lastAuditSum := s.auditSum }
  if s.auditSum ≠ s.params.auditExpected then
    if s.auditFailure then summed
    else
      (List.finRange 48).foldl State.withdrawSealedOffer
        (({ summed with auditFailure := true } : State).raise .auditFail)
  else if s.auditFailure then ({ summed with auditFailure := false } : State).triggerPass
  else summed

/-- The countdown loaded with an interval; 0 stops it (R142). -/
def loadCountdown (n : Nat) : Option Nat := if n = 0 then none else some n

/-- The audit of a countdown that stands at 0; the countdown is loaded again (R142). -/
def State.auditExpiry (s : State) : State :=
  if s.auditCountdown = some 0 then
    s.audit.setCountdown (loadCountdown s.params.auditInterval)
  else s

end Sys2Proof.Machine
end

