-- ==== Sys2Proof/Machine/Clock.lean ====
section
/-!
DEFINITION. Reset, the office tick and what comes at a tick, the placement pass as a step, and SET-CLOCK
(R37, R38, R40, R73, R74, R83, R87, R88, R98, R106, R112, R142, R169).

The expiries of one tick are steps of their own in the table. The tick lowers each timer; a timer that
stands at 0 has expired at the present tick, and its expiry is the step named for it, or the next tick
takes it first (log entry 3).
-/

namespace Sys2Proof.Machine

/-! ## RESET -/

/-- RESET: every block in its reset state; the commands that wait are not the part's and stay (R169; log
entries 1 and 25). -/
def execReset (cause : ResetCause) (s : State) : Host.Outcome State Fault Refusal :=
  match cause with
  | .powerOn => .next { State.reset with pending := s.pending }
  | .pin us =>
    if us < Config.shortestReset then .fault .resetPulseTooShort
    else .next { State.reset with pending := s.pending }

/-! ## The expiries -/

/-- The offer of a typist runs out: it ends as a DECLINE would end it, the offers-missed count rises, and
its message is removed or followed by a WITHDRAW (R112, R113). -/
def State.offerExpires (s : State) (t : TypistIx) : State :=
  match (s.typist t).pending with
  | none => s.modTypist t (fun r => { r with offerTimer := none })
  | some p =>
    (((s.offerReturns p.take (some t)).offerEnds t).modTypist t (fun r =>
      { r with offersMissed := bump Config.topCount r.offersMissed })).retractOffer t
        (s.handleOf p.take)

/-- The offer timers that stand at 0 expire together, in ascending typist number (R106, R112). -/
def State.offerExpiries (s : State) : State :=
  (List.finRange 48).foldl
    (fun s t => if (s.typist t).offerTimer = some 0 then s.offerExpires t else s) s

/-- The typist grace timers that stand at 0 expire together, in ascending typist number (R83, R106). -/
def State.typistGraceExpiries (s : State) : State :=
  (List.finRange 48).foldl
    (fun s t => if (s.typist t).grace = some 0 then s.typistGraceEnds t else s) s

/-- The console grace timers that stand at 0 expire together, in ascending console number (R38, R106). -/
def State.consoleGraceExpiries (s : State) : State :=
  (List.finRange 24).foldl
    (fun s c => if (s.console c).grace = some 0 then s.cutShortClose c else s) s

/-- Whether a drift window has run its 60 seconds (R40). -/
def State.windowDue (s : State) (c : ConsoleIx) : Bool :=
  match (s.console c).window with
  | none => false
  | some w => w.startSecond + Config.driftSeconds ≤ s.officeTime

/-- The tolerance of a drift check: the ceiling of expected times the drift per-mille over 1000 (R40). -/
def driftTolerance (expected perMille : Nat) : Nat := (expected * perMille + 999) / 1000

/-- Checks a console's drift window and restarts it at the present office time and the last code (R40,
R41). -/
def State.checkWindow (s : State) (c : ConsoleIx) : State :=
  match (s.console c).window with
  | none => s
  | some w =>
    let code := (s.console c).lastCode.getD w.startCode
    let advance := code - w.startCode
    let expected := 10 * (s.officeTime - w.startSecond)
    let d := max advance expected - min advance expected
    let restarted := s.modConsole c (fun k => { k with window := some ⟨s.officeTime, code⟩ })
    if driftTolerance expected s.params.driftPerMille < d then restarted.driftFails c
    else restarted.modConsole c (fun k => { k with drift := .inStep })

/-- The drift windows that are due are checked (R40). -/
def State.driftChecks (s : State) : State :=
  (List.finRange 24).foldl (fun s c => if s.windowDue c then s.checkWindow c else s) s

/-- OFFER_TIMER_EXPIRY (R112). -/
def execOfferTimerExpiry (s : State) : Host.Outcome State Fault Refusal :=
  .next s.settled.offerExpiries

/-- TYPIST_GRACE_EXPIRY (R83). -/
def execTypistGraceExpiry (s : State) : Host.Outcome State Fault Refusal :=
  .next s.settled.typistGraceExpiries

/-- CONSOLE_GRACE_EXPIRY (R38). -/
def execConsoleGraceExpiry (s : State) : Host.Outcome State Fault Refusal :=
  .next s.settled.consoleGraceExpiries

/-- DRIFT_WINDOW_CHECK (R40). -/
def execDriftWindowCheck (s : State) : Host.Outcome State Fault Refusal :=
  .next s.settled.driftChecks

/-- AUDIT_COUNTDOWN_EXPIRY (R142). -/
def execAuditCountdownExpiry (s : State) : Host.Outcome State Fault Refusal :=
  .next s.settled.auditExpiry

/-- PLACEMENT_PASS: the pass that the last event has triggered (R106; log entry 2). -/
def execPlacementPass (s : State) : Host.Outcome State Fault Refusal := .next s.settled

/-! ## OFFICE_TICK -/

/-- Everything that the tick before has brought to expiry and that no step of its own has taken: the
arbiter's, the roster's, the session table's and the clearance unit's, each event followed by its pass
(R106; log entries 3 and 26). -/
def State.finishTick (s : State) : State :=
  s.offerExpiries.settled.typistGraceExpiries.settled.driftChecks.consoleGraceExpiries.settled.auditExpiry.settled

/-- A timer lowered by one tick; at 0 it stands (R37, R83, R112, R142). -/
def lowerTimer (t : Option Nat) : Option Nat := t.map (· - 1)

/-- The deadline monitor on one take (R98). -/
def monitored (now margin : Nat) (t : Take) : Take :=
  if t.state.watched then { t with status := statusAt now margin t.latestStart } else t

/-- Whether the monitor finds that some take's status has worsened to raise an event (R97, R98). -/
def State.monitorFinds (s : State) (e : Event) : Bool :=
  s.takes.toList.any (fun t =>
    decide (worsened t.status (monitored s.officeTime s.params.margin t).status = some e))

/-- Raises an event where a condition holds. -/
def State.raiseWhen (s : State) (b : Bool) (e : Event) : State := if b then s.raise e else s

/-- The deadline monitor: the status of every CLOSED, OFFERED, TYPING and PARKED take against the present
office time, with the events (R97, R98). -/
def State.monitor (s : State) : State :=
  (({ s with takes := s.takes.map (monitored s.officeTime s.params.margin) } : State).raiseWhen
    (s.monitorFinds .atRisk) .atRisk).raiseWhen (s.monitorFinds .late) .late

/-- Whether a typist's work seconds rise at a tick: WORKING or SWITCHING, not away, and active within the
idle limit (R73). -/
def worksAt (now idleLimit : Nat) (r : Typist) (c : Context) : Bool :=
  (decide (r.state = .working) || decide (r.state = .switching)) && !r.away &&
    decide (now - c.lastActivity < idleLimit)

/-- A tick on one typist record: work seconds, offer timer, grace timer (R73, R83, R112). -/
def tickTypist (now idleLimit : Nat) (r : Typist) : Typist :=
  { r with
    context := r.context.map (fun c =>
      if worksAt now idleLimit r c then { c with work := bump Config.topWord c.work } else c)
    offerTimer := lowerTimer r.offerTimer
    grace := lowerTimer r.grace }

/-- A tick on one console's fields: the grace timer (R37). -/
def tickConsole (k : Console) : Console := { k with grace := lowerTimer k.grace }

/-- The tick itself: office time, the monitor, the roster's, the session table's and the clearance unit's
timers, each with the office time that the tick has given (R87). -/
def State.tick (s : State) : State :=
  let m := ({ s with officeTime := min Config.topSecond (s.officeTime + 1) } : State).monitor
  { m with
    typists := m.typists.map (tickTypist m.officeTime m.params.idleLimit)
    consoles := m.consoles.map tickConsole
    auditCountdown := lowerTimer m.auditCountdown }

/-- OFFICE_TICK (R87). -/
def execOfficeTick (s : State) : Host.Outcome State Fault Refusal := .next s.settled.finishTick.tick

/-! ## SET-CLOCK -/

/-- A stamp moved by the amount the clock moved, held at 0 and at the top (R74). -/
def moveStamp (before after x : Nat) : Nat :=
  if before ≤ after then sumHeld x (after - before) else x - (before - after)

/-- The stamps of one typist record moved (R74). -/
def moveTypist (before after : Nat) (r : Typist) : Typist :=
  { r with
    idleSince := r.idleSince.map (moveStamp before after)
    context := r.context.map (fun c =>
      { c with lastActivity := moveStamp before after c.lastActivity }) }

/-- A running drift window restarted at the new office time and the last code (R39). -/
def restartWindow (now : Nat) (k : Console) : Console :=
  { k with window := k.window.map (fun w => ⟨now, k.lastCode.getD w.startCode⟩) }

/-- Office time set by the host (R39, R74, R88). -/
def State.setOfficeTime (s : State) (v : Nat) : State :=
  { s with
    officeTime := v
    typists := s.typists.map (moveTypist s.officeTime v)
    consoles := s.consoles.map (restartWindow v) }

/-- SET-CLOCK (R88). -/
def setClockWork (v : Option Quad) (s : State) : Result × State :=
  match v with
  | none => (.ok false [.quad s.officeTime], s)
  | some v => (.ok false [.quad s.officeTime, .quad v.toNat], s.setOfficeTime v.toNat)

/-- SET-CLOCK (R88). -/
def execSetClock (v : Option Quad) (s : State) : Host.Outcome State Fault Refusal :=
  .next (host (.setClock v) (setClockWork v) s)

end Sys2Proof.Machine
end

