-- ==== Sys2Proof/Machine/CueRequests.lean ====
section
/-!
DEFINITION. The cue table's requests: MARK, SEAL, UNSEAL, RESOLVE, LIST, LOCATE and READ-MARKS (chapters
3 and 7; R48 to R61, R123 to R127).
-/

namespace Sys2Proof.Machine

/-! ## MARK, SEAL, UNSEAL -/

/-- The offset of a console's mark: the held length for an off-record kind, otherwise the requested offset
clamped to the length (R47). -/
def markOffset (t : Take) (k : MarkKind) (offset : Half) : Nat :=
  if k.offRecord then t.length else min t.length offset.toNat

/-- MARK after its checks: the insertion and its answer (R43 to R48). -/
def storeMark (c : ConsoleIx) (i : TakeIx) (k : MarkKind) (offset : Half) (speaker : Option Byte)
    (label : Option Text) (cut : Bool) (s : State) : Result × State :=
  let t := s.take i
  let at_ := markOffset t k offset
  let clamped := cut || (speakerIntake speaker).2 || (!k.offRecord && t.length < offset.toNat)
  let r := s.insertMark i ⟨at_, k, (speakerIntake speaker).1, label, .console c, none⟩ false
  match r.1.id? with
  | none => (.full clamped [], r.2)
  | some m => (.ok clamped [.half m.val, .half at_], r.2)

/-- MARK: the checks in the order of R48. -/
def markWork (c : ConsoleIx) (h : Half) (kind : Byte) (offset : Half) (speaker : Option Byte)
    (label : Option Text) (s : State) : Result × State :=
  match s.boundTo c with
  | none => refuse .noSession s
  | some x =>
    match (MarkKind.ofCode kind.toNat).filter MarkKind.markable, labelIntake label with
    | some k, some (l, cut) =>
      match s.resolve h with
      | none => refuse .stale s
      | some i =>
        let t := s.take i
        if t.state = .certified then refuse .guarded s
        else if t.state = .returned ∨ (k.offRecord ∧ t.state ≠ .opened) then refuse .wrongState s
        else if t.session ≠ some x then refuse .denied s
        else storeMark c i k offset speaker l cut s
    | _, _ => refuse .unknown s

/-- MARK as a request of its console. -/
def markRequest (c : ConsoleIx) (h : Half) (kind : Byte) (offset : Half) (speaker : Option Byte)
    (label : Option Text) : State → State :=
  answered (consoleDrop c) 0x04 (markWork c h kind offset speaker label)

/-- MARK (R48). -/
def execMark (c : ConsoleIx) (h : Half) (kind : Byte) (offset : Half) (speaker : Option Byte)
    (label : Option Text) (s : State) : Host.Outcome State Fault Refusal :=
  .next (station (consoleDrop c) (markRequest c h kind offset speaker label) s)

/-- The open take that SEAL and UNSEAL act on, after their checks: bound, a label that is not refused, a
RECORDING session (R49, R50; log entry 12). -/
def State.sealTarget (s : State) (c : ConsoleIx) (label : Option Text) :
    Except AnswerStatus (TakeIx × Option Text × Bool) :=
  match s.boundTo c with
  | none => .error .noSession
  | some x =>
    match labelIntake label with
    | none => .error .unknown
    | some (l, cut) =>
      match (s.session x).state, (s.session x).openTake with
      | .recording, some i => .ok (i, l, cut)
      | _, _ => .error .wrongState

/-- SEAL (R49, R53). -/
def sealWork (c : ConsoleIx) (level : Byte) (label : Option Text) (s : State) : Result × State :=
  match s.sealTarget c label with
  | .error st => refuse st s
  | .ok (i, l, cut) =>
    let clamped := cut || clamps 1 3 level.toNat
    let r := s.insertSealStart i (s.take i).length (sealLevelOf level) l (.console c)
    match r.1.id? with
    | none => (.full clamped [], r.2)
    | some m => (.ok clamped [.half m.val], r.2)

/-- SEAL as a request of its console. -/
def sealRequest (c : ConsoleIx) (level : Byte) (label : Option Text) : State → State :=
  answered (consoleDrop c) 0x05 (sealWork c level label)

/-- SEAL (R49). -/
def execSeal (c : ConsoleIx) (level : Byte) (label : Option Text) (s : State) :
    Host.Outcome State Fault Refusal :=
  .next (station (consoleDrop c) (sealRequest c level label) s)

/-- UNSEAL: a SEAL-END at the held length; only a stored one closes the span (R50, R53). DESIGN CHOICE, unsafe:
an UNSEAL that is suppressed as a duplicate changes nothing, so a span that a suppressed SEAL at the same offset
has opened again (log entry 27) stays open, where R50 says both that the span is already closed and that nothing
changes (log entry 33). -/
def unsealWork (c : ConsoleIx) (label : Option Text) (s : State) : Result × State :=
  match s.sealTarget c label with
  | .error st => refuse st s
  | .ok (i, l, cut) =>
    match s.insertMark i ⟨(s.take i).length, .sealEnd, none, l, .console c, none⟩ false with
    | (.lost, s') => (.full cut [], s')
    | (.duplicate m, s') => (.ok cut [.half m.val], s')
    | (.stored m, s') =>
      (.ok cut [.half m.val], s'.modTake i (fun t => { t with openSpan := none }))

/-- UNSEAL as a request of its console. -/
def unsealRequest (c : ConsoleIx) (label : Option Text) : State → State :=
  answered (consoleDrop c) 0x06 (unsealWork c label)

/-- UNSEAL (R50). -/
def execUnseal (c : ConsoleIx) (label : Option Text) (s : State) :
    Host.Outcome State Fault Refusal :=
  .next (station (consoleDrop c) (unsealRequest c label) s)

/-! ## RESOLVE -/

/-- A query of a take becomes RESOLVED: the open-query count falls by one, and the holding typist's notes
pending rises by one (R57, R58). -/
def State.markResolved (s : State) (i : TakeIx) (id : MarkId) : State :=
  (s.modTake i (fun t =>
    { t with
      marks := t.marks.map (fun m => if m.id = id then { m with query := some .resolved } else m)
      openQueries := t.openQueries - 1 })).toContext i (fun c n => (c, bump Config.topCount n))

/-- The answer of a RESOLVE: the note's identifier when there is one, and the "note not stored"
indication (R57, R166). -/
def noteResult (clamped notStored : Bool) (id : Option MarkId) : Result :=
  ⟨.ok, clamped, notStored, false, optional id (fun m => [.half m.val])⟩

/-- RESOLVE of a QUERY mark of a take, by the source of its note (R57). -/
def resolveMark (i : TakeIx) (q : Mark) (source : Source) (label : Option Text) (cut : Bool)
    (s : State) : Result × State :=
  let note : NewMark := ⟨q.offset, .note, none, label, source, none⟩
  if q.query = some .resolved then
    let standing := if label.isSome then (s.take i).marks.find? note.same else none
    (noteResult cut false (standing.map (·.id)), s)
  else
    let resolved := s.markResolved i q.id
    if label.isSome then
      let r := resolved.insertMark i note true
      (noteResult cut r.1.id?.isNone r.1.id?, r.2)
    else (noteResult cut false none, resolved)

/-- RESOLVE after the binding check: the checks in the order of R57; `mine` is the session a console's
take must belong to. -/
def resolveChecked (mine : Option SessionIx) (source : Source) (h m : Half) (label : Option Text)
    (s : State) : Result × State :=
  match labelIntake label with
  | none => refuse .unknown s
  | some (l, cut) =>
    match s.resolve h with
    | none => refuse .stale s
    | some i =>
      let t := s.take i
      if t.state = .certified then refuse .guarded s
      else if t.state = .opened then refuse .wrongState s
      else if mine.isSome ∧ t.session ≠ mine then refuse .denied s
      else
        match t.marks.find? (fun k => k.id.val = m.toNat) with
        | none => refuse .stale s
        | some q => if q.kind ≠ .query then refuse .wrongState s else resolveMark i q source l cut s

/-- RESOLVE by its asker. A typist has no RESOLVE: its drop's code is not defined for its role (R152). -/
def resolveWork (a : Asker) (h m : Half) (label : Option Text) (s : State) : Result × State :=
  match a with
  | .host => resolveChecked none .supervisor h m label s
  | .typist _ => refuse .unknown s
  | .console c =>
    match s.boundTo c with
    | none => refuse .noSession s
    | some x => resolveChecked (some x) (.console c) h m label s

/-- RESOLVE as a request of a console. -/
def resolveRequest (c : ConsoleIx) (h m : Half) (label : Option Text) : State → State :=
  answered (consoleDrop c) 0x07 (resolveWork (.console c) h m label)

/-- RESOLVE (R57). -/
def execResolve (a : Asker) (h m : Half) (label : Option Text) (s : State) :
    Host.Outcome State Fault Refusal :=
  .next (asked a (.resolveQuery a h m label) (resolveWork a h m label) s)

/-! ## LIST and READ-MARKS -/

/-- The marks of a listing from a start position: the start clamped to the count, up to `most` marks, the
number remaining, and whether the start was clamped (R59, R60). -/
def listing (most : Nat) (t : Take) (start : Byte) : List Field × Nat × Bool :=
  let from_ := min t.marks.length start.toNat
  let shown := (t.marks.drop from_).take most
  (markListing from_ shown, t.marks.length - from_ - shown.length, t.marks.length < start.toNat)

/-- The answer of a LIST (R59). -/
def listAnswer (t : Take) (start : Byte) : Result :=
  let l := listing Config.listAnswer t start
  .ok l.2.2 (l.1 ++ [.small l.2.1])

/-- A typist's LIST of its current take clears the context's notes pending (R59). -/
def State.clearNotes (s : State) (t : TypistIx) : State :=
  s.modTypist t (fun r => { r with context := r.context.map (fun c => { c with notes := 0 }) })

/-- LIST by its asker: the checks in the order of R59; a typist's own current take is exempt from the
hand-out check (R135). The host has no LIST (R152). -/
def listWork (a : Asker) (h : Half) (start : Byte) (q : Option Byte) (s : State) : Result × State :=
  match a with
  | .host => refuse .unknown s
  | .console c =>
    match s.boundTo c with
    | none => refuse .noSession s
    | some x =>
      match s.resolve h with
      | none => refuse .stale s
      | some i =>
        if (s.take i).session ≠ some x then refuse .denied s
        else if s.effective (consoleDrop c) (requestLevel q) < (s.take i).level then refuse .denied s
        else (listAnswer (s.take i) start, s)
  | .typist t =>
    if (s.typist t).state = .off then refuse .wrongState s
    else
      match s.resolve h with
      | none => refuse .stale s
      | some i =>
        if (s.typist t).current = some i then (listAnswer (s.take i) start, s.clearNotes t)
        else if s.effective (typistDrop t) (requestLevel q) < (s.take i).level then refuse .denied s
        else (listAnswer (s.take i) start, s)

/-- LIST as a request of a console. -/
def listConsoleRequest (c : ConsoleIx) (h : Half) (start : Byte) (q : Option Byte) : State → State :=
  answered (consoleDrop c) 0x08 (listWork (.console c) h start q)

/-- LIST as a request of a typist. -/
def listTypistRequest (t : TypistIx) (h : Half) (start : Byte) (q : Option Byte) : State → State :=
  answered (typistDrop t) 0x27 (listWork (.typist t) h start q)

/-- LIST (R59). -/
def execList (a : Asker) (h : Half) (start : Byte) (q : Option Byte) (s : State) :
    Host.Outcome State Fault Refusal :=
  .next (asked a (.listMarks a h start q) (listWork a h start q) s)

/-- READ-MARKS (R60). DESIGN CHOICE, unsafe: the SEAL-MARK-LOST flag alone is sent as a yes/no byte, 00h or
01h (log entry 15). -/
def readMarksWork (h : Half) (start : Byte) (s : State) : Result × State :=
  match s.resolve h with
  | none => refuse .stale s
  | some i =>
    let t := s.take i
    let l := listing Config.readAnswer t start
    (.ok l.2.2 (l.1 ++
      [.small l.2.1, .small t.marks.length, .small t.openQueries, .small t.marksLost,
        .flag t.flags.sealMarkLost, .small t.level.val] ++
      optional t.openSpan (fun v => [.small v.val]) ++ [.half s.freeMarks]), s)

/-- READ-MARKS (R60). -/
def execReadMarks (h : Half) (start : Byte) (s : State) : Host.Outcome State Fault Refusal :=
  .next (host (.readMarks h start) (readMarksWork h start) s)

/-! ## LOCATE -/

/-- The kind part of a LOCATE: absent or FFh is any; `none` for an undefined code (R123). -/
def kindPart : Option Byte → Option (Option MarkKind)
  | none => some none
  | some b => if b.toNat = 255 then some none else (MarkKind.ofCode b.toNat).map some

/-- The present end of a session: the session end plus the held length of the open take (R123). -/
def State.presentEnd (s : State) (x : SessionIx) : Nat :=
  (s.session x).sessionEnd.getD 0 +
    (((s.session x).openTake.map (fun i => (s.take i).length)).getD 0)

/-- What a LOCATE looks for. -/
structure Search where
  kind : Option MarkKind
  speaker : Option Nat
  before : Nat
  clearance : Level
deriving DecidableEq, Repr

/-- Whether a mark of a take satisfies every condition of R125. -/
def Search.matches (q : Search) (t : Take) (m : Mark) : Bool :=
  decide (t.sessionStart.getD 0 + m.offset ≤ q.before) && (q.kind.isNone || q.kind = some m.kind) &&
    (q.speaker.isNone || q.speaker = m.speaker) && decide (m.level ≤ q.clearance)

/-- The found mark of one take, walking its list from the last position to position 0, with its position. -/
def Search.inTake (q : Search) (t : Take) : Option (Nat × Mark) :=
  (t.marks.zipIdx.reverse.find? (fun x => q.matches t x.1)).map (fun x => (x.2, x.1))

/-- The found mark of a session's takes, given in descending sequence (R125). -/
def State.search (s : State) (q : Search) : List TakeIx → Option (TakeIx × Nat × Mark)
  | [] => none
  | i :: is =>
    match q.inTake (s.take i) with
    | some (p, m) => some (i, p, m)
    | none => s.search q is

/-- The bookmark of a LOCATE, inserted after the found mark unless the take is CERTIFIED. A found mark that is
itself the console's bookmark is reported as the bookmark (R61, R127). -/
def State.bookmark (s : State) (c : ConsoleIx) (i : TakeIx) (found : Mark) : Option MarkId × State :=
  let new : NewMark := ⟨found.offset, .bookmark, none, none, .console c, none⟩
  if (s.take i).state = .certified then (none, s)
  else if new.same found then (some found.id, s)
  else
    let r := s.insertMark i new false
    (r.1.id?, r.2)

/-- The fields of a found mark (R126), with the bookmark's identifier when it is set. -/
def State.foundFields (s : State) (i : TakeIx) (p : Nat) (m : Mark) (set : Option MarkId) :
    List Field :=
  [.handle (s.handleOf i), .half m.id.val, .small p, .half m.offset,
    .quad ((s.take i).sessionStart.getD 0 + m.offset), .small m.kind.code] ++
    speakerField m.speaker ++ labelField m.label ++ [.small m.level.val] ++
    optional set (fun b => [.half b.val])

/-- LOCATE (R123 to R127). DESIGN CHOICE, unsafe: NOT-FOUND leaves the indication "bookmark asked" clear, with
the bookmark option set too (log entry 14). -/
def locateWork (c : ConsoleIx) (kind speaker : Option Byte) (before : Option Quad) (q : Option Byte)
    (bookmark : Bool) (s : State) : Result × State :=
  match s.boundTo c with
  | none => refuse .noSession s
  | some x =>
    match kindPart kind with
    | none => refuse .unknown s
    | some k =>
      let ends := s.presentEnd x
      let clamped := (speakerIntake speaker).2 || requestLevelClamps q
      let look : Search :=
        ⟨k, (speakerIntake speaker).1, (before.map BitVec.toNat).getD ends,
          s.effective (consoleDrop c) (requestLevel q)⟩
      match s.search look (s.session x).takes.reverse with
      | none => (⟨.notFound, clamped, false, false, [.quad ends]⟩, s)
      | some (i, p, m) =>
        let r := if bookmark then s.bookmark c i m else (none, s)
        (⟨.ok, clamped, bookmark && r.1.isNone, bookmark, s.foundFields i p m r.1⟩, r.2)

/-- LOCATE as a request of its console. -/
def locateRequest (c : ConsoleIx) (kind speaker : Option Byte) (before : Option Quad)
    (q : Option Byte) (bookmark : Bool) : State → State :=
  answered (consoleDrop c) 0x09 (locateWork c kind speaker before q bookmark)

/-- LOCATE (R123). -/
def execLocate (c : ConsoleIx) (kind speaker : Option Byte) (before : Option Quad) (q : Option Byte)
    (bookmark : Bool) (s : State) : Host.Outcome State Fault Refusal :=
  .next (station (consoleDrop c) (locateRequest c kind speaker before q bookmark) s)

end Sys2Proof.Machine
end

