-- ==== Sys2Proof/Machine/DirectoryRequests.lean ====
section
/-!
DEFINITION. The directory's host requests: READ-TAKE, SCAN-TAKES, WITHDRAW, REQUEUE, CERTIFY and RETIRE
(1.5, R17 to R24).
-/

namespace Sys2Proof.Machine

/-! ## READ-TAKE and SCAN-TAKES -/

/-- The host's id of a take's session (R19). -/
def State.sessionId (s : State) (k : Take) : Nat :=
  ((k.session.bind (fun x => (s.session x).id)).map BitVec.toNat).getD 0

/-- The answer fields of READ-TAKE in the order of R19. -/
def State.takeFields (s : State) (i : TakeIx) : List Field :=
  let k := s.take i
  [.handle (s.handleOf i), .small k.state.code, .half (s.sessionId k), .small (k.sequence.getD 0),
    .quad (k.sessionStart.getD 0), .small ((k.console.map number).getD 0), .half k.length,
    .half k.typedTo, .small k.level.val, .small (k.cls.getD .ordinary).rank, .flag k.rushPending,
    .small k.quals.code] ++
    optional k.deadline (fun n => [.quad n]) ++ optional k.latestStart (fun n => [.quad n]) ++
    [.small k.status.code] ++ optional k.serial (fun n => [.quad n]) ++
    optional k.typist (fun t => [.small (number t)]) ++
    counted k.exclusion (fun t => [.small (number t)]) ++ [.small k.marks.length] ++
    optional k.openSpan (fun l => [.small l.val]) ++
    [.small k.openQueries, .small k.marksLost, .small k.flags.code] ++
    optional k.package (fun p =>
      [.half p.position, .small p.cursor, .half p.work, .half p.base, .small p.notes])

/-- READ-TAKE (R19). -/
def readTakeWork (h : Half) (s : State) : Result × State :=
  match s.resolve h with
  | none => refuse .stale s
  | some i => (.ok false (s.takeFields i), s)

/-- READ-TAKE (R19). -/
def execReadTake (h : Half) (s : State) : Host.Outcome State Fault Refusal :=
  .next (host (.readTake h) (readTakeWork h) s)

/-- Whether a set byte holds the element of a code (R166). -/
def inSet (set : Byte) (code : Nat) : Bool := set.getLsbD code

/-- The first slot from a start index on whose state and status are in the sets (R20). -/
def State.scan (s : State) (start : Nat) (states statuses : Byte) : Option TakeIx :=
  (List.finRange 512).find? (fun i =>
    decide (start ≤ i.val) && inSet states (s.take i).state.code &&
      inSet statuses (s.take i).status.code)

/-- SCAN-TAKES (R20). -/
def scanTakesWork (start : Half) (states statuses : Byte) (s : State) : Result × State :=
  match s.scan start.toNat states statuses with
  | none => (⟨.ok, false, true, false, []⟩, s)
  | some i =>
    (.ok false [.half i.val, .small (s.take i).gen.val, .small (s.take i).state.code,
      .small (s.take i).status.code], s)

/-- SCAN-TAKES (R20). -/
def execScanTakes (start : Half) (states statuses : Byte) (s : State) :
    Host.Outcome State Fault Refusal :=
  .next (host (.scanTakes start states statuses) (scanTakesWork start states statuses) s)

/-! ## WITHDRAW, REQUEUE, CERTIFY -/

/-- WITHDRAW (R21). -/
def withdrawWork (h : Half) (s : State) : Result × State :=
  match s.resolve h with
  | none => refuse .stale s
  | some i =>
    match (s.take i).state with
    | .certified => refuse .guarded s
    | .offered | .typing | .parked => (.ok false [.small TakeState.closed.code], s.withdrawHeld i)
    | .free | .opened | .closed | .returned => refuse .wrongState s

/-- WITHDRAW (R21). -/
def execWithdraw (h : Half) (s : State) : Host.Outcome State Fault Refusal :=
  .next (host (.withdrawTake h) (withdrawWork h) s)

/-- RETURNED to CLOSED at a typed-to value: the latest start by the office ratio, a new serial, a place in
the queue (R22). -/
def State.requeue (s : State) (i : TakeIx) (goal : Nat) : State :=
  (((s.modTake i (fun k => { k with typedTo := goal, typist := none, state := .closed })).recompute
    i).giveSerial i).enqueue i

/-- REQUEUE (R22). -/
def requeueWork (h p : Half) (s : State) : Result × State :=
  match s.resolve h with
  | none => refuse .stale s
  | some i =>
    match (s.take i).state with
    | .certified => refuse .guarded s
    | .returned =>
      let goal := min (s.take i).length p.toNat
      (.ok ((s.take i).length < p.toNat) [.half goal], s.requeue i goal)
    | .free | .opened | .closed | .offered | .typing | .parked => refuse .wrongState s

/-- REQUEUE (R22). -/
def execRequeue (h p : Half) (s : State) : Host.Outcome State Fault Refusal :=
  .next (host (.requeueTake h p) (requeueWork h p) s)

/-- CERTIFY (R23); of a CERTIFIED take it is answered OK without change (R18). -/
def certifyWork (h : Half) (s : State) : Result × State :=
  match s.resolve h with
  | none => refuse .stale s
  | some i =>
    match (s.take i).state with
    | .certified => (.ok false [], s)
    | .returned =>
      if (s.take i).openQueries = 0 then
        (.ok false [], s.modTake i (fun k => { k with state := .certified }))
      else refuse .queriesOpen s
    | .free | .opened | .closed | .offered | .typing | .parked => refuse .wrongState s

/-- CERTIFY (R23). -/
def execCertify (h : Half) (s : State) : Host.Outcome State Fault Refusal :=
  .next (host (.certifyTake h) (certifyWork h) s)

/-! ## RETIRE -/

/-- The generation after a retirement: advanced by one, modulo 128 (R3). -/
def nextGen (g : Gen) : Gen := g + 1

/-- Removes a retired take from its session's list; an ENDED session left empty returns to FREE (R24,
R30). -/
def State.leaveSession (s : State) (i : TakeIx) : Option SessionIx → State
  | none => s
  | some x =>
    (s.modSession x (fun r => { r with takes := r.takes.filter (· ≠ i) })).freeIfEmpty x

/-- A slot returned to FREE: out of the queue, its marks back in the pool, out of its session, the
generation advanced (R3, R24, R62). -/
def State.retire (s : State) (i : TakeIx) : State :=
  ((s.dequeue i).leaveSession i (s.take i).session).setTake i (Take.freeAt (nextGen (s.take i).gen))

/-- RETIRE (R24). -/
def retireWork (h : Half) (s : State) : Result × State :=
  match s.resolve h with
  | none => refuse .stale s
  | some i =>
    match (s.take i).state with
    | .closed | .returned | .certified =>
      (.ok false [.small (nextGen (s.take i).gen).val], s.retire i)
    | .free | .opened | .offered | .typing | .parked => refuse .wrongState s

/-- RETIRE (R24). -/
def execRetire (h : Half) (s : State) : Host.Outcome State Fault Refusal :=
  .next (host (.retireTake h) (retireWork h) s)

end Sys2Proof.Machine
end

