-- ==== Sys2Proof/Machine/SessionRequests.lean ====
section
/-!
DEFINITION. The session table's requests: OPEN, CLOSE and ROLL from a console, and OPEN-SESSION,
END-SESSION and READ-SESSION from the host (chapter 2, R27 to R34).
-/

namespace Sys2Proof.Machine

/-! ## Console requests -/

/-- The opening of a take in a session: no slot is asked for with the next sequence absent, and a
directory without a FREE slot raises DIRECTORY-FULL (R4, R32). -/
def State.tryOpen (s : State) (c : ConsoleIx) (x : SessionIx) : Option TakeIx × State :=
  match (s.session x).nextSequence with
  | none => (none, s)
  | some _ =>
    match s.lowestFreeSlot with
    | none => (none, s.raise .directoryFull)
    | some i => (some i, s.openInSlot c x i)

/-- OPEN (R32). -/
def openWork (c : ConsoleIx) (s : State) : Result × State :=
  match s.boundTo c with
  | none => refuse .noSession s
  | some x =>
    if (s.session x).state ≠ .bound then refuse .wrongState s
    else
      match s.tryOpen c x with
      | (none, s') => (.full false [], s')
      | (some i, s') => (.ok false [.handle (s'.handleOf i)], s')

/-- OPEN as a request of its console. -/
def openRequest (c : ConsoleIx) : State → State := answered (consoleDrop c) 0x01 (openWork c)

/-- OPEN (R31, R32). -/
def execOpen (c : ConsoleIx) (s : State) : Host.Outcome State Fault Refusal :=
  .next (station (consoleDrop c) (openRequest c) s)

/-- CLOSE (R33). -/
def closeWork (c : ConsoleIx) (final : Half) (s : State) : Result × State :=
  match s.boundTo c with
  | none => refuse .noSession s
  | some x =>
    match (s.session x).state, (s.session x).openTake with
    | .recording, some i =>
      (.ok (Config.topTenths < final.toNat)
          [.handle (s.handleOf i), .half (min Config.topTenths final.toNat)],
        s.closeSession x (fun _ => final.toNat) false false)
    | _, _ => refuse .wrongState s

/-- CLOSE as a request of its console. -/
def closeRequest (c : ConsoleIx) (final : Half) : State → State :=
  answered (consoleDrop c) 0x03 (closeWork c final)

/-- CLOSE (R31, R33). -/
def execClose (c : ConsoleIx) (final : Half) (s : State) : Host.Outcome State Fault Refusal :=
  .next (station (consoleDrop c) (closeRequest c final) s)

/-- The result fields of ROLL: the closed take's handle, if a take was open, and the new one's, if one
was opened (2.3). -/
def rollFields (closed opened : Option Handle) : List Field :=
  optional closed (fun h => [.handle h]) ++ optional opened (fun h => [.handle h])

/-- The opening half of ROLL, after what its closing half has closed (R34). -/
def rollOpens (c : ConsoleIx) (x : SessionIx) (clamped : Bool) (closed : Option Handle) (s : State) :
    Result × State :=
  match s.tryOpen c x with
  | (none, s') => (.full clamped (rollFields closed none), s')
  | (some i, s') => (.ok clamped (rollFields closed (some (s'.handleOf i))), s')

/-- ROLL: a CLOSE that carries an open span, followed by an OPEN; in BOUND the opening half alone (R34). -/
def rollWork (c : ConsoleIx) (final : Half) (s : State) : Result × State :=
  match s.boundTo c with
  | none => refuse .noSession s
  | some x =>
    match (s.session x).state, (s.session x).openTake with
    | .recording, some i =>
      rollOpens c x (Config.topTenths < final.toNat) (some (s.handleOf i))
        (s.closeSession x (fun _ => final.toNat) false true)
    | .bound, _ => rollOpens c x false none s
    | _, _ => refuse .wrongState s

/-- ROLL as a request of its console. -/
def rollRequest (c : ConsoleIx) (final : Half) : State → State :=
  answered (consoleDrop c) 0x02 (rollWork c final)

/-- ROLL (R31, R34). -/
def execRoll (c : ConsoleIx) (final : Half) (s : State) : Host.Outcome State Fault Refusal :=
  .next (station (consoleDrop c) (rollRequest c final) s)

/-! ## Host requests -/

/-- The lowest FREE session record (R27). -/
def State.lowestFreeSession (s : State) : Option SessionIx :=
  (List.finRange 32).find? (fun x => (s.session x).state = .free)

/-- The record that OPEN-SESSION fills (R27). -/
def Session.openedFor (id : Half) (c : ConsoleIx) (level cls : Byte) (allowance : Quad)
    (quals : Byte) : Session where
  id := some id
  console := some c
  state := .bound
  level := some (levelOf level)
  cls := some (TakeClass.ofByte cls)
  allowance := some (min Config.topAllowance allowance.toNat)
  quals := Quals.ofByte quals
  takes := []
  openTake := none
  sealCarry := none
  nextSequence := some 1
  sessionEnd := some 0

/-- OPEN-SESSION (R27). -/
def openSessionWork (id : Half) (console level cls : Byte) (allowance : Quad) (quals : Byte)
    (s : State) : Result × State :=
  match numbered 24 console with
  | none => refuse .unknown s
  | some c =>
    if (s.findSession id).isSome then refuse .wrongState s
    else if (s.boundTo c).isSome then refuse .wrongState s
    else
      match s.lowestFreeSession with
      | none => refuse .full s
      | some x =>
        (.ok (levelClamps level || 3 < cls.toNat || Config.topAllowance < allowance.toNat)
            [.small x.val],
          (s.setSession x (Session.openedFor id c level cls allowance quals)).setConsole c
            { Console.reset with bound := some x })

/-- OPEN-SESSION (R27). -/
def execOpenSession (id : Half) (console level cls : Byte) (allowance : Quad) (quals : Byte)
    (s : State) : Host.Outcome State Fault Refusal :=
  .next (host (.openSession id console level cls allowance quals)
    (openSessionWork id console level cls allowance quals) s)

/-- The end of a session: an open take closed at its held length without CUT-SHORT, the carry discarded,
the console unbound and its fields stopped, the record ENDED, and FREE at once with an empty list (R28,
R30). -/
def State.endSession (s : State) (x : SessionIx) : State :=
  let closed := if (s.session x).state = .recording then s.closeSession x (·.length) false false else s
  let ended := closed.modSession x (fun r =>
    { r with sealCarry := none, openTake := none, state := .ended })
  let unbound := match (s.session x).console with
    | none => ended
    | some c => ended.setConsole c Console.reset
  unbound.freeIfEmpty x

/-- The session end after END-SESSION: an open take's held length is added (R28). -/
def State.finalEnd (s : State) (x : SessionIx) : Nat :=
  let r := s.session x
  r.sessionEnd.getD 0 +
    match r.state, r.openTake with
    | .recording, some i => min Config.topTenths (s.take i).length
    | _, _ => 0

/-- END-SESSION (R28). -/
def endSessionWork (id : Half) (s : State) : Result × State :=
  match s.findSession id with
  | none => refuse .noSession s
  | some x =>
    if (s.session x).state = .ended then refuse .wrongState s
    else (.ok false [.quad (s.finalEnd x)], s.endSession x)

/-- END-SESSION (R28). -/
def execEndSession (id : Half) (s : State) : Host.Outcome State Fault Refusal :=
  .next (host (.endSession id) (endSessionWork id) s)

/-- The answer fields of READ-SESSION in the order of R29. -/
def State.sessionFields (s : State) (x : SessionIx) : List Field :=
  let r := s.session x
  [.small x.val, .half ((r.id.map BitVec.toNat).getD 0), .small ((r.console.map number).getD 0),
    .small r.state.code, .small (r.level.getD 0).val, .small (r.cls.getD .ordinary).rank,
    .quad (r.allowance.getD 0), .small r.quals.code] ++
    counted r.takes (fun i => [.handle (s.handleOf i)]) ++
    optional r.openTake (fun i => [.handle (s.handleOf i), .half (s.take i).length]) ++
    optional r.sealCarry (fun l => [.small l.val]) ++
    optional r.nextSequence (fun n => [.small n]) ++ [.quad (r.sessionEnd.getD 0)]

/-- READ-SESSION (R29). -/
def readSessionWork (id : Half) (s : State) : Result × State :=
  match s.findSession id with
  | none => refuse .noSession s
  | some x => (.ok false (s.sessionFields x), s)

/-- READ-SESSION (R29). -/
def execReadSession (id : Half) (s : State) : Host.Outcome State Fault Refusal :=
  .next (host (.readSession id) (readSessionWork id) s)

end Sys2Proof.Machine
end

