-- ==== Sys2Proof/Machine/Link.lean ====
section
/-!
DEFINITION. The link controller: rounds and roll-call, poll transactions, misses and good replies, and
ENABLE-DROP, DISABLE-DROP and READ-DROP (chapter 9, R145 to R156; R35 to R41, R69, R81, R82, R84).

A poll transaction is two commands: POLL_TRANSACTION sends the frame of the drop at which the round
stands, and REPLY_MISS or GOOD_REPLY ends it and takes the round on (log entry 6).
-/

namespace Sys2Proof.Machine

/-! ## Rounds (R148) -/

/-- Whether a drop is due in a round: PRESENT, or ABSENT with a roll-call count of 0. -/
def Drop.due (r : Drop) : Bool :=
  match r.state with
  | .present => true
  | .absent => r.rollCall.getD 0 = 0
  | .disabled => false

/-- A drop that a round passes without polling it: an ABSENT drop's roll-call count is lowered by one. -/
def Drop.passed (r : Drop) : Drop :=
  match r.state with
  | .absent => { r with rollCall := r.rollCall.map (· - 1) }
  | .present | .disabled => r

/-- Walks a round over the drops still before it, to the first that is due; the round ends when none
is. The drops on the way are passed at once (R148). DESIGN CHOICE, unsafe: the walk is made when the round starts
and when a transaction ends, not when the next frame is sent (log entry 35). -/
def State.walk (s : State) : List DropIx → State
  | [] => s.setRound none
  | d :: ds =>
    if (s.drop d).due then s.setRound (some d.val) else (s.modDrop d Drop.passed).walk ds

/-- The drops from a place of the round on. -/
def dropsFrom (p : Nat) : List DropIx := (List.finRange 72).filter (fun d => p ≤ d.val)

/-- Whether some drop is not DISABLED. -/
def State.anyEnabled (s : State) : Bool := s.drops.toList.any (fun r => r.state ≠ .disabled)

/-- A round starts at drop 1. -/
def State.startRound (s : State) : State := s.walk (dropsFrom 0)

/-- The round goes on from where it stands. -/
def State.advanceRound (s : State) : State :=
  match s.round with
  | none => s
  | some p => s.walk (dropsFrom p)

/-- POLL_ROUND: the next round, when no round is running and some drop is not DISABLED (R148; log entry
6). -/
def State.pollRound (s : State) : State :=
  if s.round = none ∧ s.inFlight = none ∧ s.anyEnabled then s.startRound else s

/-- POLL_ROUND (R148). -/
def execPollRound (s : State) : Host.Outcome State Fault Refusal := .next s.settled.pollRound

/-! ## Sending a poll frame (R149, R154, R155) -/

/-- The head message leaves the queue; a hand-off message that leaves triggers a pass (R154). -/
def State.sendHead (s : State) (d : DropIx) : State :=
  match (s.drop d).out with
  | [] => s
  | m :: ms => if m.isHandOff then (s.setOut d ms).triggerPass else s.setOut d ms

/-- Sends the poll frame to a drop: the reply timeout in force is the transaction's, and the round has
the drop behind it (R148, R149). -/
def State.poll (s : State) (d : DropIx) : State :=
  { s.sendHead d with
    ltx := s.pollFrame d
    inFlight := some ⟨d, s.params.replyTimeout⟩
    round := some (d.val + 1) }

/-- The drop that the running round polls next, when it stands at one. -/
def State.roundDrop (s : State) : Option DropIx :=
  match s.round with
  | none => none
  | some p => (List.finRange 72).find? (fun d => d.val = p)

/-- POLL_TRANSACTION: the next frame of the running round. A drop disabled since the round came to stand
at it is passed over (R148; log entry 6). -/
def State.pollTransaction (s : State) : State :=
  if s.inFlight.isSome then s
  else
    match s.advanceRound.roundDrop with
    | none => s.advanceRound
    | some d => s.advanceRound.poll d

/-- POLL_TRANSACTION (R149). -/
def execPollTransaction (s : State) : Host.Outcome State Fault Refusal := .next s.settled.pollTransaction

/-! ## Misses (R150) -/

/-- The count that an absence or a missed roll-call poll loads: the divisor less one (R148). -/
def State.rollCallLoad (s : State) : Nat := s.params.rollCallDivisor - 1

/-- A console's drop goes ABSENT: the grace timer of a RECORDING session starts, expiring at once with a
value of 0, and the drift window stops (R37, R39). -/
def State.consoleLeaves (s : State) (c : ConsoleIx) : State :=
  let stopped := s.modConsole c (fun k => { k with window := none })
  let recording : Bool := match s.boundTo c with
    | none => false
    | some x => decide ((s.session x).state = .recording)
  if recording then
    if s.params.consoleGrace = 0 then stopped.cutShortClose c
    else stopped.modConsole c (fun k => { k with grace := some s.params.consoleGrace })
  else stopped

/-- A typist's drop goes ABSENT: away, a pending take withdrawn without a message, and the grace timer
started, expiring at once with a value of 0; an OFF typist is only away (R81). -/
def State.typistLeaves (s : State) (t : TypistIx) : State :=
  let away := s.modTypist t (fun r => { r with away := true })
  if (s.typist t).state = .off then away
  else
    let relieved := away.withdrawPending t false
    if s.params.typistGrace = 0 then relieved.typistGraceEnds t
    else relieved.modTypist t (fun r => { r with grace := some s.params.typistGrace })

/-- A drop goes ABSENT: its queue is flushed without counting, DROP-ABSENT is raised, and the owner of its
role is told (R150). -/
def State.goAbsent (s : State) (d : DropIx) : State :=
  let gone := (s.modDrop d (fun r =>
    { r with state := .absent, misses := 0, rollCall := some s.rollCallLoad, out := [] })).raise
      .dropAbsent
  match dropRole d with
  | .console c => gone.consoleLeaves c
  | .typist t => gone.typistLeaves t

/-- A miss of a drop's poll (R150). -/
def State.miss (s : State) (d : DropIx) : State :=
  let counted := s.discardRequest d
  match (s.drop d).state with
  | .disabled => counted
  | .absent => counted.modDrop d (fun r => { r with rollCall := some s.rollCallLoad })
  | .present =>
    if (s.drop d).misses = Config.lastMiss then counted.goAbsent d
    else counted.modDrop d (fun r => { r with misses := r.misses + 1 })

/-- The transaction under way ends: nothing is in flight, and the round goes on. DESIGN CHOICE, unsafe: it goes on
at once to the next drop that is due, so that between two transactions the drops before that one are already
passed, their roll-call counts lowered, and one of them enabled then waits for the next round; with none due the
round has ended (R148; log entry 35). -/
def State.endTransaction (s : State) : State := ({ s with inFlight := none } : State).advanceRound

/-- REPLY_MISS: the reply timeout runs out. Without a transaction under way there is nothing to miss
(R149, R150; log entry 6). -/
def State.replyMiss (s : State) : State :=
  match s.inFlight with
  | none => s
  | some f => (s.miss f.drop).endTransaction

/-- REPLY_MISS (R150). -/
def execReplyMiss (s : State) : Host.Outcome State Fault Refusal := .next s.settled.replyMiss

/-! ## Good replies: presence (R151) -/

/-- A drop returns: for a console the grace timer stops, for a typist away is cleared, the grace timer
stops, a RESUME is queued for a current take, and a pass is triggered (R37, R82, R106, R151). -/
def State.ownerTold (s : State) (d : DropIx) : State :=
  match dropRole d with
  | .console c => s.modConsole c (fun k => { k with grace := none })
  | .typist t =>
    ((s.modTypist t (fun r => { r with away := false, grace := none })).queueResume t).triggerPass

/-- The first step of a good reply: the miss count becomes 0, and an ABSENT drop becomes PRESENT (R151). -/
def State.presence (s : State) (d : DropIx) : State :=
  let reset := s.modDrop d (fun r => { r with misses := 0 })
  if (s.drop d).state = .absent then
    (reset.modDrop d (fun r => { r with state := .present, rollCall := none })).ownerTold d
  else reset

/-! ## Good replies: the status block (R35, R36, R39, R41, R69 to R71) -/

/-- A time code lower than the console's last one is a drift failure, and a running window restarts at
the present office time and the code (R35, R41). -/
def State.fallingCode (s : State) (c : ConsoleIx) (code : Nat) : State :=
  match (s.console c).lastCode with
  | none => s
  | some last =>
    if code < last then
      (s.modConsole c (fun k => { k with window := k.window.map (fun _ => ⟨s.officeTime, code⟩) })).driftFails
        c
    else s

/-- The open take's length becomes the larger of itself and the code; a length that reaches 36000 makes
the take OVERLONG (R35, R36). -/
def State.lengthen (s : State) (i : TakeIx) (code : Nat) : State :=
  let t := s.take i
  let len := max t.length code
  let reaches : Bool := Config.topTenths ≤ len
  (s.setTake i
    { t with length := len, flags := { t.flags with overlong := t.flags.overlong || reaches } }).raiseSome
      (if reaches && !t.flags.overlong then some .overlong else none)

/-- The drift window at a reply: a RECORDING report starts one that is not running, a PAUSED report stops
it (R39). -/
def windowAt (now code : Nat) (recording : Bool) (w : Option DriftWindow) : Option DriftWindow :=
  if recording then w.or (some ⟨now, code⟩) else none

/-- A console's status block (R35, R36, R39, R41). -/
def State.takeTimeCode (s : State) (c : ConsoleIx) (r : Reply) : State :=
  match s.boundTo c with
  | none => s
  | some x =>
    match (s.session x).state, (s.session x).openTake with
    | .recording, some i =>
      let code := min Config.topTenths r.value
      ((s.fallingCode c code).lengthen i code).modConsole c (fun k =>
        { k with
          lastCode := some code
          window := windowAt s.officeTime code (r.flags = 1) k.window })
    | _, _ => s

/-- Whether a typist's report is activity: the pedal, the activity indication, or another position (R69). -/
def showsActivity (flags : Byte) (before after : Nat) : Bool :=
  flags.getLsbD 0 || flags.getLsbD 1 || before ≠ after

/-- A typist's status block: for a WORKING or SWITCHING typist the position, clamped to the current take's
length, is reported, and the reply may be activity (R69, R70, R71, R151; log entry 19). -/
def State.takePosition (s : State) (t : TypistIx) (r : Reply) : State :=
  match (s.typist t).state, (s.typist t).current, (s.typist t).context with
  | .working, some i, some c | .switching, some i, some c =>
    let pos := min (s.take i).length (min Config.topTenths r.value)
    let moved := s.movePosition t i c pos
    if showsActivity r.flags c.position pos then moved.activity t else moved
  | _, _, _ => s

/-- The second step of a good reply (R151). -/
def State.statusTaken (s : State) (d : DropIx) (r : Reply) : State :=
  match dropRole d with
  | .console c => s.takeTimeCode c r
  | .typist t => s.takePosition t r

/-! ## Good replies: the request (R152) -/

/-- What the owner of a console's request does with it. Only a console's request stands here. -/
def consoleEffect : Instr → State → State
  | .openTake c => openRequest c
  | .rollTake c f => rollRequest c f
  | .closeTake c f => closeRequest c f
  | .markTake c h k o sp l => markRequest c h k o sp l
  | .sealTake c v l => sealRequest c v l
  | .unsealTake c l => unsealRequest c l
  | .resolveQuery (.console c) h m l => resolveRequest c h m l
  | .listMarks (.console c) h p q => listConsoleRequest c h p q
  | .locateMark c k sp b q m => locateRequest c k sp b q m
  | .rushTake c h => rushRequest c h
  | .probeTake (.console c) h q => probeConsoleRequest c h q
  | _ => id

/-- What the owner of a typist's request does with it. Only a typist's request stands here. -/
def typistEffect : Instr → State → State
  | .signOn t => signOnRequest t
  | .signOff t => signOffRequest t
  | .checkpoint t h p => checkpointRequest t h p
  | .raiseQuery t h o sp l => queryRequest t h o sp l
  | .doneTake t h => doneRequest t h
  | .releaseTake t h => releaseRequest t h
  | .listMarks (.typist t) h p q => listTypistRequest t h p q
  | .acceptOffer t h => acceptRequest t h
  | .declineOffer t h => declineRequest t h
  | .probeTake (.typist t) h q => probeTypistRequest t h q
  | _ => id

/-- The answer to a console's request whose parameters do not fit its code: the binding is checked first,
but for PROBE (R31, R166, R167; log entry 13). -/
def State.malformedConsole (s : State) (c : ConsoleIx) (code : Nat) : AnswerStatus :=
  if s.boundTo c = none ∧ code ≠ 0x0B then .noSession else .unknown

/-- The answer to a typist's request whose parameters do not fit its code: the OFF check comes first, but
for SIGN-ON and PROBE (R67, R166, R167; log entry 13). -/
def State.malformedTypist (s : State) (t : TypistIx) (code : Nat) : AnswerStatus :=
  if (s.typist t).state = .off ∧ code ≠ 0x21 ∧ code ≠ 0x2A then .wrongState else .unknown

/-- A request of a reply, routed by its code and the role of its drop (R152). -/
def State.routed (s : State) (d : DropIx) (code : Nat) (ps : List Byte) : State :=
  match dropRole d with
  | .console c =>
    match Decode.consoleRequest c code ps with
    | .undefined => s.answerDrop d code (.of .unknown)
    | .malformed => s.answerDrop d code (.of (s.malformedConsole c code))
    | .request i => consoleEffect i s
  | .typist t =>
    match Decode.typistRequest t code ps with
    | .undefined => s.answerDrop d code (.of .unknown)
    | .malformed => s.answerDrop d code (.of (s.malformedTypist t code))
    | .request i => typistEffect i s

/-- The third step of a good reply: the request it carries, if any (R151, R152). -/
def State.requestTaken (s : State) (d : DropIx) : List Byte → State
  | [] => s
  | code :: ps => intake d (fun s => s.routed d code.toNat ps) s

/-- A good reply: presence, then the status block, then the request (R151). -/
def State.goodReply (s : State) (d : DropIx) (r : Reply) : State :=
  ((s.presence d).statusTaken d r).requestTaken d r.request

/-- The bytes received in a transaction: a good reply, or a miss (R149). -/
def State.replied (s : State) (d : DropIx) (frame : List Byte) : State :=
  match judgeReply d frame with
  | none => s.miss d
  | some r => s.goodReply d r

/-- GOOD_REPLY: bytes received up to the closing gap. Without a transaction under way they are discarded
(R147, R149; log entry 6). -/
def State.receive (s : State) (frame : List Byte) : State :=
  match s.inFlight with
  | none => s
  | some f => (s.replied f.drop frame).endTransaction

/-- GOOD_REPLY (R151). -/
def execGoodReply (frame : List Byte) (s : State) : Host.Outcome State Fault Refusal :=
  .next (s.settled.receive frame)

/-! ## ENABLE-DROP (R146) -/

/-- A DISABLED drop becomes PRESENT; a round starts when none is running (R146, R148). -/
def State.enableDrop (s : State) (d : DropIx) : State :=
  let on := s.modDrop d (fun r => { r with state := .present, misses := 0, rollCall := none })
  if s.round = none ∧ s.inFlight = none then on.startRound else on

/-- ENABLE-DROP (R146). -/
def enableDropWork (n : Byte) (s : State) : Result × State :=
  match numbered 72 n with
  | none => refuse .unknown s
  | some d =>
    if (s.drop d).state = .disabled then (.ok false [.small DropState.present.code], s.enableDrop d)
    else (.ok false [.small (s.drop d).state.code], s)

/-- ENABLE-DROP (R146). -/
def execEnableDrop (n : Byte) (s : State) : Host.Outcome State Fault Refusal :=
  .next (host (.enableDrop n) (enableDropWork n) s)

/-! ## DISABLE-DROP (R147) -/

/-- A console's drop is disabled: an open take is cut short, the drift state becomes IN-STEP, the grace
timer stops, the binding is kept (R38, R39). -/
def State.consoleDisabled (s : State) (c : ConsoleIx) : State :=
  (s.cutShortClose c).modConsole c (fun k =>
    { k with drift := .inStep, window := none, grace := none })

/-- A typist's drop is disabled: the typist is signed off without TYPIST-LOST, away becomes no (R84). -/
def State.typistDisabled (s : State) (t : TypistIx) : State :=
  let off := if (s.typist t).state = .off then s else s.signOffRecord t
  off.modTypist t (fun r => { r with away := false })

/-- A transaction under way with a drop that is disabled comes to nothing (R147). -/
def State.cancelPoll (s : State) (d : DropIx) : State :=
  match s.inFlight with
  | none => s
  | some f => if f.drop = d then s.endTransaction else s

/-- With every drop DISABLED the round ends (R148). -/
def State.endIfIdle (s : State) : State := if s.anyEnabled then s else s.setRound none

/-- A PRESENT or ABSENT drop is disabled, in the order of R147. -/
def State.disableDrop (s : State) (d : DropIx) : State :=
  let off := s.modDrop d (fun r =>
    { r with out := [], state := .disabled, misses := 0, rollCall := none })
  let told := match dropRole d with
    | .console c => off.consoleDisabled c
    | .typist t => off.typistDisabled t
  (told.cancelPoll d).endIfIdle

/-- DISABLE-DROP (R147). -/
def disableDropWork (n : Byte) (s : State) : Result × State :=
  match numbered 72 n with
  | none => refuse .unknown s
  | some d =>
    (.ok false [], if (s.drop d).state = .disabled then s else s.disableDrop d)

/-- DISABLE-DROP (R147). -/
def execDisableDrop (n : Byte) (s : State) : Host.Outcome State Fault Refusal :=
  .next (host (.disableDrop n) (disableDropWork n) s)

/-! ## READ-DROP (R156) -/

/-- The code of a drop's role (R166). -/
def Role.code : Role → Nat
  | .console _ => 0
  | .typist _ => 1

/-- The console fields that READ-DROP adds for drops 1 to 24 (R156). -/
def State.consoleFields (s : State) : Role → List Field
  | .typist _ => []
  | .console c =>
    let k := s.console c
    optional k.bound (fun x =>
        [.small x.val, .half (((s.session x).id.map BitVec.toNat).getD 0)]) ++
      [.small k.drift.code] ++
      optional k.window (fun w => [.quad w.startSecond, .half w.startCode]) ++
      optional k.lastCode (fun n => [.half n]) ++ optional k.grace (fun n => [.half n])

/-- The answer fields of READ-DROP in the order of R156. -/
def State.dropFields (s : State) (d : DropIx) : List Field :=
  let r := s.drop d
  [.small (dropRole d).code, .small r.state.code, .small r.misses] ++
    optional r.rollCall (fun n => [.small n]) ++
    counted r.out (fun m => [.small m.kindCode]) ++
    [.half r.linkErrors, .small (s.clearance d).val] ++ s.consoleFields (dropRole d)

/-- READ-DROP (R156). -/
def readDropWork (n : Byte) (s : State) : Result × State :=
  match numbered 72 n with
  | none => refuse .unknown s
  | some d => (.ok false (s.dropFields d), s)

/-- READ-DROP (R156). -/
def execReadDrop (n : Byte) (s : State) : Host.Outcome State Fault Refusal :=
  .next (host (.readDrop n) (readDropWork n) s)

end Sys2Proof.Machine
end

