-- ==== Sys2Proof/Machine/Port.lean ====
section
/-!
DEFINITION. The supervisor port: writes and reads of its frames, the parameter table, the event flags and
masks, and the counters (chapter 10, R157 to R165; R168).
-/

namespace Sys2Proof.Machine

/-! ## Transactions (R158, R159, R160, R168) -/

/-- What the response buffer shifts out: a waiting response, or the no-response frame (R159, R168). -/
def State.buffer (s : State) : List Byte :=
  match s.slot with
  | .responseWaiting a => a.responseFrame
  | .empty | .inProgress _ => noResponse

/-- The bytes that a transaction of `n` bytes shifts out: the buffer from its first byte, and FFh after
its last (R168). -/
def shiftedOut (n : Nat) (bs : List Byte) : List Byte :=
  bs.take n ++ List.replicate (n - bs.length) 0xFF#8

/-- A read transaction of `n` bytes: a waiting response that is read out in full is removed (R159). -/
def State.read (s : State) (n : Nat) : State :=
  let shifted := { s with miso := shiftedOut n s.buffer }
  match s.slot with
  | .responseWaiting a => if a.responseFrame.length ≤ n then { shifted with slot := .empty } else shifted
  | .empty | .inProgress _ => shifted

/-- The slot that the port gives a request frame: a response of UNKNOWN that it builds itself, or
IN-PROGRESS with the request, whose owner takes it later (R157, R158). -/
def judgeRequest (bytes : List Byte) : Slot :=
  match bytes with
  | l1 :: l0 :: code :: ps =>
    if l1.toNat * 256 + l0.toNat ≠ bytes.length then
      .responseWaiting ((Result.of .unknown).toAnswer code.toNat)
    else
      match Decode.hostRequest code.toNat ps with
      | .undefined | .malformed => .responseWaiting ((Result.of .unknown).toAnswer code.toNat)
      | .request i => .inProgress i
  | _ => .responseWaiting ((Result.of .unknown).toAnswer 0)

/-- A write transaction, judged when CS rises: taken into an EMPTY slot, an overrun on a busy one. A write
shifts out what a read would and removes nothing (R158, R160, R168). -/
def State.write (s : State) (bytes : List Byte) : State :=
  let shifted := { s with miso := shiftedOut bytes.length s.buffer }
  if s.slot = .empty then { shifted with slot := judgeRequest bytes }
  else shifted.raise .supervisorOverrun

/-- A transaction: nothing without a byte, a read when every byte is FFh, a write otherwise (R158). -/
def State.transaction (s : State) (bytes : List Byte) : State :=
  if bytes = [] then s
  else if bytes.all (· = 0xFF#8) then s.read bytes.length
  else s.write bytes

/-- REQUEST_FRAME (R158; log entry 9). -/
def execRequestFrame (bytes : List Byte) (s : State) : Host.Outcome State Fault Refusal :=
  .next (s.settled.transaction bytes)

/-- SPI_READ (R159). -/
def execSpiRead (n : Nat) (s : State) : Host.Outcome State Fault Refusal :=
  .next (s.settled.transaction (List.replicate n 0xFF#8))

/-! ## The parameter table (R161, R162) -/

/-- Replaces a parameter of the table (R161). -/
def State.putParam (s : State) (n v : Nat) : State := { s with params := s.params.put n v }

/-- A running roll-call count above the new divisor less one is lowered to that value (R148). -/
def capRollCall (divisor : Nat) (r : Drop) : Drop :=
  { r with rollCall := r.rollCall.map (min (divisor - 1)) }

/-- Every running roll-call count held to the divisor in force (R148). -/
def State.capRollCalls (s : State) : State :=
  { s with drops := s.drops.map (capRollCall s.params.rollCallDivisor) }

/-- Every CLOSED and OFFERED take recomputed, the queue put in its new order, and a pass (R95, R99,
R104). -/
def State.officeRatioChanged (s : State) : State :=
  let affected := (List.finRange 512).filter (fun i =>
    (s.take i).state = .closed ∨ (s.take i).state = .offered)
  ((affected.foldl State.recompute s).rebuildQueue).triggerPass

/-- What the block that uses a parameter does at its write: the last column of the parameter table (10.3,
R161). `before` is the value before the write. A write of the audit interval that finds the countdown run
out comes after that tick's audit, which is taken first (R142, R161; log entry 3). -/
def State.parameterTold (s : State) (n before : Nat) : State :=
  match n with
  | 1 => if s.params.officeRatio = before then s else s.officeRatioChanged
  | 9 => s.auditExpiry.setCountdown (loadCountdown s.params.auditInterval)
  | 10 => s.audit
  | 12 => s.capRollCalls
  | _ => s

/-- The fields that SET-PARAM of the audit expected value adds: the audit's sum and whether a failure
stands after it (R161). -/
def State.auditFields (s : State) (n : Nat) : List Field :=
  if n = 10 then [.half s.lastAuditSum, .flag s.auditFailure] else []

/-- SET-PARAM (R161). -/
def setParamWork (n : Byte) (v : Quad) (s : State) : Result × State :=
  match paramRange n.toNat with
  | none => refuse .unknown s
  | some (low, high) =>
    let before := s.params.get n.toNat
    let taken := clampTo low high v.toNat
    let s' := (s.putParam n.toNat taken).parameterTold n.toNat before
    (.ok (clamps low high v.toNat)
      ([.small n.toNat, .quad before, .quad taken] ++ s'.auditFields n.toNat), s')

/-- SET-PARAM (R161). -/
def execSetParam (n : Byte) (v : Quad) (s : State) : Host.Outcome State Fault Refusal :=
  .next (host (.setParam n v) (setParamWork n v) s)

/-- What READ-PARAM adds for parameters 9 and 10 (R162). -/
def State.paramFields (s : State) (n : Nat) : List Field :=
  if n = 9 then optional s.auditCountdown (fun c => [.half c])
  else if n = 10 then [.half s.lastAuditSum, .flag s.auditFailure, .flag s.clearanceLock]
  else []

/-- READ-PARAM (R162). -/
def readParamWork (n : Byte) (s : State) : Result × State :=
  match paramRange n.toNat with
  | none => refuse .unknown s
  | some _ =>
    (.ok false ([.small n.toNat, .quad (s.params.get n.toNat)] ++ s.paramFields n.toNat), s)

/-- READ-PARAM (R162). -/
def execReadParam (n : Byte) (s : State) : Host.Outcome State Fault Refusal :=
  .next (host (.readParam n) (readParamWork n) s)

/-! ## Event flags and masks (R163, R164) -/

/-- READ-EVENTS (R164). -/
def readEventsWork (s : State) : Result × State :=
  (.ok false [.half s.events.toNat, .half s.masks.toNat], s)

/-- READ-EVENTS (R164). -/
def execReadEvents (s : State) : Host.Outcome State Fault Refusal :=
  .next (host .readEvents readEventsWork s)

/-- CLEAR-EVENTS: the flags selected are cleared, the others left as they are (R164). -/
def clearEventsWork (selection : Half) (s : State) : Result × State :=
  let after := s.events &&& ~~~definedFlags selection
  (.ok (beyondFlags selection) [.half s.events.toNat, .half after.toNat], { s with events := after })

/-- CLEAR-EVENTS (R164). -/
def execClearEvents (selection : Half) (s : State) : Host.Outcome State Fault Refusal :=
  .next (host (.clearEvents selection) (clearEventsWork selection) s)

/-- SET-MASK: all 14 masks replaced (R163). -/
def setMaskWork (masks : Half) (s : State) : Result × State :=
  (.ok (beyondFlags masks) [.half (definedFlags masks).toNat, .half s.events.toNat],
    { s with masks := definedFlags masks })

/-- SET-MASK (R163). -/
def execSetMask (masks : Half) (s : State) : Host.Outcome State Fault Refusal :=
  .next (host (.setMask masks) (setMaskWork masks) s)

/-! ## Counters (R165) -/

/-- A drop's link error count set to 0. -/
def zeroLinkErrors (r : Drop) : Drop := { r with linkErrors := 0 }

/-- A typist's cues-dropped and offers-missed counts set to 0. -/
def zeroCounts (r : Typist) : Typist := { r with cuesDropped := 0, offersMissed := 0 }

/-- A take's marks-lost count set to 0. -/
def zeroMarksLost (k : Take) : Take := { k with marksLost := 0 }

/-- CLEAR-COUNTS (R165). -/
def clearCountsWork (s : State) : Result × State :=
  (.ok false [],
    { s with
      drops := s.drops.map zeroLinkErrors
      typists := s.typists.map zeroCounts
      takes := s.takes.map zeroMarksLost })

/-- CLEAR-COUNTS (R165). -/
def execClearCounts (s : State) : Host.Outcome State Fault Refusal :=
  .next (host .clearCounts clearCountsWork s)

end Sys2Proof.Machine
end

