-- ==== Sys2Proof/Machine/Dispatch.lean ====
section
/-! DEFINITION. The dispatch of a command to its meaning: one arm for each row of spec/opcode_table.json. -/

namespace Sys2Proof.Machine

/-- The effect of a command on everything but the queue of commands. -/
def exec (i : Instr) (s : State) : Host.Outcome State Fault Refusal :=
  match i with
  | .reset a => Sys2Proof.Machine.execReset a s
  | .officeTick => Sys2Proof.Machine.execOfficeTick s
  | .offerTimerExpiry => Sys2Proof.Machine.execOfferTimerExpiry s
  | .typistGraceExpiry => Sys2Proof.Machine.execTypistGraceExpiry s
  | .consoleGraceExpiry => Sys2Proof.Machine.execConsoleGraceExpiry s
  | .driftWindowCheck => Sys2Proof.Machine.execDriftWindowCheck s
  | .auditCountdownExpiry => Sys2Proof.Machine.execAuditCountdownExpiry s
  | .placementPass => Sys2Proof.Machine.execPlacementPass s
  | .pollRound => Sys2Proof.Machine.execPollRound s
  | .pollTransaction => Sys2Proof.Machine.execPollTransaction s
  | .replyMiss => Sys2Proof.Machine.execReplyMiss s
  | .goodReply a => Sys2Proof.Machine.execGoodReply a s
  | .openTake a => Sys2Proof.Machine.execOpen a s
  | .closeTake a b => Sys2Proof.Machine.execClose a b s
  | .rollTake a b => Sys2Proof.Machine.execRoll a b s
  | .markTake a b c d e f => Sys2Proof.Machine.execMark a b c d e f s
  | .sealTake a b c => Sys2Proof.Machine.execSeal a b c s
  | .unsealTake a b => Sys2Proof.Machine.execUnseal a b s
  | .resolveQuery a b c d => Sys2Proof.Machine.execResolve a b c d s
  | .listMarks a b c d => Sys2Proof.Machine.execList a b c d s
  | .locateMark a b c d e f => Sys2Proof.Machine.execLocate a b c d e f s
  | .rushTake a b => Sys2Proof.Machine.execRush a b s
  | .probeTake a b c => Sys2Proof.Machine.execProbe a b c s
  | .signOn a => Sys2Proof.Machine.execSignOn a s
  | .signOff a => Sys2Proof.Machine.execSignOff a s
  | .checkpoint a b c => Sys2Proof.Machine.execCheckpoint a b c s
  | .raiseQuery a b c d e => Sys2Proof.Machine.execQuery a b c d e s
  | .doneTake a b => Sys2Proof.Machine.execDone a b s
  | .releaseTake a b => Sys2Proof.Machine.execRelease a b s
  | .acceptOffer a b => Sys2Proof.Machine.execAccept a b s
  | .declineOffer a b => Sys2Proof.Machine.execDecline a b s
  | .requestFrame a => Sys2Proof.Machine.execRequestFrame a s
  | .spiRead a => Sys2Proof.Machine.execSpiRead a s
  | .setClock a => Sys2Proof.Machine.execSetClock a s
  | .setParam a b => Sys2Proof.Machine.execSetParam a b s
  | .readParam a => Sys2Proof.Machine.execReadParam a s
  | .enableDrop a => Sys2Proof.Machine.execEnableDrop a s
  | .disableDrop a => Sys2Proof.Machine.execDisableDrop a s
  | .readDrop a => Sys2Proof.Machine.execReadDrop a s
  | .setTypist a b c d => Sys2Proof.Machine.execSetTypist a b c d s
  | .readTypist a => Sys2Proof.Machine.execReadTypist a s
  | .setConsole a b => Sys2Proof.Machine.execSetConsole a b s
  | .lockClearance => Sys2Proof.Machine.execLockClearance s
  | .openSession a b c d e f => Sys2Proof.Machine.execOpenSession a b c d e f s
  | .endSession a => Sys2Proof.Machine.execEndSession a s
  | .readSession a => Sys2Proof.Machine.execReadSession a s
  | .readTake a => Sys2Proof.Machine.execReadTake a s
  | .scanTakes a b c => Sys2Proof.Machine.execScanTakes a b c s
  | .setDeadline a b => Sys2Proof.Machine.execSetDeadline a b s
  | .setClass a b => Sys2Proof.Machine.execSetClass a b s
  | .relevel a b => Sys2Proof.Machine.execRelevel a b s
  | .withdrawTake a => Sys2Proof.Machine.execWithdraw a s
  | .requeueTake a b => Sys2Proof.Machine.execRequeue a b s
  | .certifyTake a => Sys2Proof.Machine.execCertify a s
  | .retireTake a => Sys2Proof.Machine.execRetire a s
  | .readMarks a b => Sys2Proof.Machine.execReadMarks a b s
  | .readEvents => Sys2Proof.Machine.execReadEvents s
  | .clearEvents a => Sys2Proof.Machine.execClearEvents a s
  | .setMask a => Sys2Proof.Machine.execSetMask a s
  | .clearCounts => Sys2Proof.Machine.execClearCounts s

end Sys2Proof.Machine
end

