-- ==== Sys2Proof/Machine/Step.lean ====
section
/-!
DEFINITION. The step: the command at the front of the queue is taken. On an empty queue the part idles
(log entry 7).
-/

namespace Sys2Proof.Machine

/-- The queue's rest: the state without the command at the front of its queue. -/
def State.withPending (s : State) (q : List Instr) : State := { s with pending := q }

/-- One step of the machine. -/
def step (s : State) : Host.Outcome State Fault Refusal :=
  match s.pending with
  | [] => .next s
  | c :: cs => exec c (s.withPending cs)

/-- The state with the command that a table word spells put at the front of its queue; unchanged where the
word spells none, which is every word, since no row of the table gives bits (log entry 10). -/
def State.withFetchWord (s : State) (nbits w : Nat) : State :=
  match Sys2Proof.decodeTableWord nbits w with
  | none => s
  | some c => s.withPending (c :: s.pending)

end Sys2Proof.Machine
end

