-- ==== Sys2Proof/Safety.lean ====
section
/-!
DEFINITION. The terms that the claims about the part use: when a request of either line is taken, what a
drop's station is answered, and the laws that every record keeps.
-/

namespace Sys2Proof

/-! ## Who sends a command -/

/-- The console that sends a command, where the command is a console's request (R152). -/
def Instr.console? : Instr → Option ConsoleIx
  | .openTake c | .closeTake c _ | .rollTake c _ | .markTake c _ _ _ _ _ | .sealTake c _ _
  | .unsealTake c _ | .resolveQuery (.console c) _ _ _ | .listMarks (.console c) _ _ _
  | .locateMark c _ _ _ _ _ | .rushTake c _ | .probeTake (.console c) _ _ => some c
  | _ => none

/-- The typist that sends a command, where the command is a typist's request (R152). -/
def Instr.typist? : Instr → Option TypistIx
  | .signOn t | .signOff t | .checkpoint t _ _ | .raiseQuery t _ _ _ _ | .doneTake t _
  | .releaseTake t _ | .listMarks (.typist t) _ _ _ | .acceptOffer t _ | .declineOffer t _
  | .probeTake (.typist t) _ _ => some t
  | _ => none

/-- The typist and the handle of a request that acts on the typist's current take: CHECKPOINT, QUERY, DONE
and RELEASE (R67). -/
def Instr.onCurrent? : Instr → Option (TypistIx × Half)
  | .checkpoint t h _ | .raiseQuery t h _ _ _ | .doneTake t h | .releaseTake t h => some (t, h)
  | _ => none

/-- Whether a command is a PROBE. -/
def Instr.isProbe : Instr → Bool
  | .probeTake _ _ _ => true
  | _ => false

/-- Whether a command is a SIGN-ON. -/
def Instr.isSignOn : Instr → Bool
  | .signOn _ => true
  | _ => false

/-- Whether a command is a RESET. -/
def Instr.isReset : Instr → Bool
  | .reset _ => true
  | _ => false

end Sys2Proof

namespace Sys2Proof.Machine

/-! ## When a request is taken -/

/-- The supervisor port hands a host request to its owner: the slot is EMPTY, or IN-PROGRESS with that
request (R157, R158). -/
abbrev State.hostReady (s : State) (i : Instr) : Prop := s.slot = .empty ∨ s.slot = .inProgress i

/-- A request of a drop's station is taken and its ANSWER finds a place: the drop is PRESENT, no ANSWER
waits unsent, and the outbound queue has room or, with 4 messages, holds a CUE to evict, which R153 gives
every queue without an ANSWER (R151, R152, R153). -/
abbrev State.stationReady (s : State) (d : DropIx) : Prop :=
  (s.drop d).state = .present ∧ s.answerWaits d = false ∧
    ((s.drop d).out.length < Config.outboundCapacity ∨
      ((s.drop d).out.length = Config.outboundCapacity ∧ (s.drop d).out.any Message.isCue = true))

/-- The ANSWER that a message is. -/
def Message.answer? : Message → Option Answer
  | .answer a => some a
  | _ => none

/-- The ANSWER that waits unsent at a drop. -/
def State.answerAt (s : State) (d : DropIx) : Option Answer := (s.drop d).out.findSome? Message.answer?

/-- Between two states one drop has been answered and nothing else has happened on the link: the ANSWER
stands behind the control messages and ahead of the CUEs, the oldest CUE having made room in a full queue
(R153). -/
def State.answeredOnly (u t : State) (d : DropIx) (a : Answer) : Prop :=
  (t.drop d).out = placeControl (.answer a)
    (if (u.drop d).out.length < Config.outboundCapacity then (u.drop d).out
    else evictCue (u.drop d).out) ∧
  { t.drop d with out := (u.drop d).out } = u.drop d ∧ ∀ e, e ≠ d → t.drop e = u.drop e

/-- The asker of a request is heard: the port is ready for the host's, the drop for a station's. -/
abbrev State.askerReady (s : State) (a : Asker) (i : Instr) : Prop :=
  match a with
  | .host => s.hostReady i
  | .console c => s.settled.stationReady (consoleDrop c)
  | .typist t => s.settled.stationReady (typistDrop t)

/-- Between two states the asker of a request has been given an answer, and nothing else has happened on
either line: a response waits at the port, or an ANSWER at the station's drop (R153, R157). -/
def State.tells (u t : State) (a : Asker) (x : Answer) : Prop :=
  match a with
  | .host => t.slot = .responseWaiting x ∧ ∀ d, t.drop d = u.drop d
  | .console c => u.answeredOnly t (consoleDrop c) x ∧ t.slot = u.slot
  | .typist n => u.answeredOnly t (typistDrop n) x ∧ t.slot = u.slot

/-- A typist record that a request has reached: last activity is the office time (R69). -/
def Typist.active (now : Nat) (r : Typist) : Typist :=
  { r with context := r.context.map (fun c => { c with lastActivity := now }) }

/-! ## What an outbound queue becomes -/

/-- A queue with a control message handed to it: placed behind the control messages and ahead of the CUEs,
the oldest CUE of a full queue making room (R153; log entry 17). -/
def outWith (m : Message) (q : List Message) : List Message :=
  if q.length < 4 then placeControl m q
  else if q.any Message.isCue = true then placeControl m (evictCue q)
  else q

/-- A queue to which the WITHDRAW of a take is handed, of an offer or of the current take, by the table of
R116: the unsent OFFER or SWITCH of the take is removed; a waiting WITHDRAW names the take as well; a SWITCH
that waits while the current take leaves stands; any other waiting hand-off message gives up its place; and
without one the message is queued (R114, R116; log entry 17). -/
def outWithdrawing (current : Bool) (h : Handle) (q : List Message) : List Message :=
  if current = false ∧ q.any (Message.offers h) = true then q.filter (fun m => !m.offers h)
  else match q.find? Message.isHandOff with
    | none => outWith (.withdraw [h]) q
    | some (.withdraw hs) => replaceHandOff (.withdraw (hs ++ [h])) q
    | some (.switch _ _) => if current = true then q else replaceHandOff (.withdraw [h]) q
    | some _ => replaceHandOff (.withdraw [h]) q

/-- A queue to which the RESUME of a withdrawal is handed: in the place of a waiting hand-off message, or
queued (R116, R122; log entry 17). -/
def outResuming (m : Message) (q : List Message) : List Message :=
  if q.any Message.isHandOff = true then replaceHandOff m q else outWith m q

/-- A queue to which the RESUME of a DONE or RELEASE is handed, behind the ANSWER: a hand-off message that
waits unsent is removed, and the RESUME stands behind the control messages (R122, R153; log entry 17). -/
def outFollowing (m : Message) (q : List Message) : List Message :=
  outWith m (q.filter (fun x => !x.isHandOff))

/-- A queue without the CUEs of a take (R72). -/
def outLeaving (h : Handle) (q : List Message) : List Message := q.filter (fun m => !m.cues h)

/-- The RESUME of a take that an exchange package gives back (R79, R122). -/
def Package.resume (h : Handle) (k : Package) : Message := .resume h k.position k.notes

/-! ## The hand-off queue -/

/-- Entry `a` stands ahead of entry `b` by the keys of R104: class, latest start, serial, directory index. -/
abbrev QueueEntry.ahead (a b : QueueEntry) : Prop :=
  a.cls.rank < b.cls.rank ∨ a.cls.rank = b.cls.rank ∧
    (a.start < b.start ∨ a.start = b.start ∧
      (a.serial < b.serial ∨ a.serial = b.serial ∧ a.take < b.take))

/-- A queue in the order of R104. -/
abbrev queueInOrder (q : List QueueEntry) : Prop := q.Pairwise QueueEntry.ahead

/-- Between two states the entry of a take has been moved, or made, and the other entries keep their order;
a queue that was in order, with at most the take's own entry out of it, is in order (R103, R104). -/
def State.entryPlaced (u t : State) (i : TakeIx) : Prop :=
  t.queue.filter (fun e => e.take ≠ i) = u.queue.filter (fun e => e.take ≠ i) ∧
    ((t.queue.filter (fun e => e.take = i)).length ≤ 1 →
      queueInOrder (u.queue.filter (fun e => e.take ≠ i)) → queueInOrder t.queue)

/-- What a change of status raises between two states: a flag is set after it exactly when it was set before
or some take's status has worsened to it (R97). -/
def State.raisesWorsened (u t : State) : Prop :=
  ∀ e, t.flagSet e = true ↔ u.flagSet e = true ∨
    ∃ i, worsened (u.take i).status (t.take i).status = some e

/-! ## Who may be offered a take -/

/-- The last four conditions of R107, which R117 asks of a candidate too: no hand-off message waits unsent at
the typist's drop; the typist's clearance, taken as 0 while an audit failure stands, is at least the take's
level; the typist holds every qualification of the take; and it is not in the take's exclusion list. -/
def State.mayBeOffered (s : State) (n : TypistIx) (i : TakeIx) : Prop :=
  let out := (s.drop (typistDrop n)).out
  let holds := (s.typist n).quals
  let needs := (s.take i).quals
  ((∀ o, .offer o ∉ out) ∧ (∀ o h, .switch o h ∉ out) ∧ (∀ hs, .withdraw hs ∉ out) ∧
    ∀ h p k, .resume h p k ∉ out) ∧
  (s.take i).level ≤ (if s.auditFailure = true then 0 else s.clearance (typistDrop n)) ∧
  ((needs.interp = true → holds.interp = true) ∧ (needs.expert = true → holds.expert = true) ∧
    (needs.multiParty = true → holds.multiParty = true) ∧ (needs.capital = true → holds.capital = true)) ∧
  n ∉ (s.take i).exclusion

/-- A typist is eligible for a take: IDLE, not away, and it meets the four conditions of `mayBeOffered`
(R107). -/
def State.eligibleFor (s : State) (n : TypistIx) (i : TakeIx) : Prop :=
  (s.typist n).state = .idle ∧ (s.typist n).away = false ∧ s.mayBeOffered n i

/-- A typist is a preemption candidate for a take and would park `j`: WORKING on `j`, which is not RUSH, with no
parked take, not away, and it meets the four conditions of `mayBeOffered` (R117). -/
def State.candidateFor (s : State) (n : TypistIx) (i j : TakeIx) : Prop :=
  (s.typist n).state = .working ∧ (s.typist n).current = some j ∧ (s.take j).cls ≠ some .rush ∧
    (s.typist n).parked = none ∧ (s.typist n).away = false ∧ s.mayBeOffered n i

/-! ## The cue table -/

/-- One mark of a LIST or READ-MARKS answer, in the order of R59: list position, identifier, offset, kind,
speaker code, label, level, source, query state and the unverified flag, an optional field with its presence
byte (R59, R166; log entry 15). -/
def Mark.listed (position : Nat) (m : Mark) : List Field :=
  let kind : Nat := match m.kind with
    | .speaker => 0
    | .exhibit => 1
    | .objection => 2
    | .ruling => 3
    | .sealStart => 4
    | .sealEnd => 5
    | .offRecordStart => 6
    | .offRecordEnd => 7
    | .query => 8
    | .note => 9
    | .bookmark => 10
  let source : List Field := match m.source with
    | .console c => [.small 0, .small (c.val + 1)]
    | .typist n => [.small 1, .small (n.val + 1)]
    | .supervisor => [.small 2, .small 0]
    | .carry => [.small 3, .small 0]
  [.small position, .half m.id.val, .half m.offset, .small kind] ++
    optional m.speaker (fun n => [.small n]) ++ optional m.label (fun t => [.label t]) ++
    [.small m.level.val] ++ source ++
    optional m.query (fun q => [.small (if q = .raised then 0 else 1)]) ++ [.flag m.unverified]

/-- The marks of such an answer: their count, then each at its list position (R59, R60, R166). -/
def listedFrom (position : Nat) (ms : List Mark) : List Field :=
  .small ms.length :: ((ms.zipIdx position).map (fun x => x.1.listed x.2)).flatten

/-- The level in force behind a stretch of a take's list: the take level once SEAL-MARK-LOST is set;
otherwise the largest of the session level and the levels of the SEAL-STARTs after the last SEAL-END of the
stretch (R51). -/
def State.levelBehind (s : State) (i : TakeIx) (before : List Mark) : Level :=
  if (s.take i).flags.sealMarkLost = true then (s.take i).level
  else ((before.reverse.takeWhile (fun m => m.kind ≠ .sealEnd)).filter (fun m => m.kind = .sealStart)).foldl
    (fun l m => max l m.level)
    (match (s.take i).session with
      | none => 0
      | some x => (s.session x).level.getD 0)

/-- Between two states a mark has been inserted in a take's list, behind `before`: behind every mark at or
below its offset and ahead of every mark above it, the other marks as `old` has them (R45). -/
def insertedBehind (m : Mark) (before old new : List Mark) : Prop :=
  ∃ after, old = before ++ after ∧ new = before ++ m :: after ∧ (∀ a ∈ before, a.offset ≤ m.offset) ∧
    ∀ a, after.head? = some a → m.offset < a.offset

/-- Between two states the context that describes a held take has had its cursor and its notes pending
changed, the working context in TYPING and the exchange package in PARKED; a take in another state has no
context (R58). -/
def State.handedOn (u t : State) (i : TakeIx) (cursor notes : Nat → Nat → Nat) : Prop :=
  (∀ n, (u.take i).state = .typing → (u.take i).typist = some n →
    t.typist n = { u.typist n with
      context := (u.typist n).context.map (fun c =>
        { c with cursor := cursor c.cursor c.notes, notes := notes c.cursor c.notes }) } ∧
      (∀ m, m ≠ n → t.typist m = u.typist m) ∧ (t.take i).package = (u.take i).package) ∧
  ((u.take i).state = .parked → t.typists = u.typists ∧
    (t.take i).package = (u.take i).package.map (fun c =>
      { c with cursor := cursor c.cursor c.notes, notes := notes c.cursor c.notes })) ∧
  ((u.take i).state ≠ .typing → (u.take i).state ≠ .parked →
    t.typists = u.typists ∧ (t.take i).package = (u.take i).package)

/-! ## Rounds -/

/-- A drop that a round stops at: PRESENT, or ABSENT with a roll-call count of 0 (R148). -/
abbrev Drop.stops (r : Drop) : Prop :=
  r.state = .present ∨ (r.state = .absent ∧ r.rollCall.getD 0 = 0)

/-- A drop that a round has passed: the roll-call count of an ABSENT one is lowered by one (R148). -/
def Drop.lowered (r : Drop) : Drop :=
  if r.state = .absent then { r with rollCall := r.rollCall.map (· - 1) } else r

/-- Between two states a transaction with a drop has ended and nothing else has happened to the other drops: a
running round has gone on to the lowest drop not yet passed at which it stops, has lowered the roll-call counts
on its way, and has ended where it stops at none (R148). That it goes on as soon as the transaction ends is the
model's choice (log entry 35). -/
def State.roundGoesOn (u t : State) (d : DropIx) : Prop :=
  (∀ e, e ≠ d → (∀ p, u.round = some p → e.val < p) → t.drop e = u.drop e) ∧
  (u.round = none → t.round = none) ∧
  ∀ p, u.round = some p → d.val < p →
    ((∃ f : DropIx, p ≤ f.val ∧ (u.drop f).stops ∧ t.round = some f.val ∧
        (∀ e, p ≤ e.val → e < f → ¬(u.drop e).stops ∧ t.drop e = (u.drop e).lowered) ∧
        ∀ e, f ≤ e → t.drop e = u.drop e) ∨
      (∀ e : DropIx, p ≤ e.val → ¬(u.drop e).stops ∧ t.drop e = (u.drop e).lowered) ∧ t.round = none)

/-! ## Takes opened and given back -/

/-- The record of a take that is opened for a session in a FREE slot of a given generation (R4). -/
def Session.opens (r : Session) (x : SessionIx) (g : Gen) (sequence : Nat) : Take :=
  { Take.freeAt g with
    state := .opened, session := some x, sequence := some sequence, sessionStart := r.sessionEnd
    console := r.console, level := r.level.getD 0, cls := r.cls, quals := r.quals }

/-- Between two states a take has been opened with a given record in a slot that held no mark. A carried span
opens in it at its level, which raises the take level. Its SEAL-START stands at offset 0 under the lowest free
identifier, or is lost for want of a record: then SEAL-MARK-LOST is set, the loss is counted, and MARK-LOST is
raised (R4, R42, R43, R53, R55). -/
def State.opensWith (u t : State) (i : TakeIx) (fresh : Take) (carry : Option Level) : Prop :=
  (carry = none → t.take i = fresh ∧ t.events = u.events) ∧
  ∀ l, carry = some l →
    let spanned : Take := { fresh with level := max fresh.level l, openSpan := some l }
    (∀ id, u.hasRoom fresh .sealStart = true → u.lowestFree = some id →
      t.take i =
        { spanned with
          marks := [{ id := id, offset := 0, kind := .sealStart, speaker := none, label := none, level := l
                      source := .carry, query := none, unverified := false }] } ∧
      t.events = u.events) ∧
    (u.hasRoom fresh .sealStart = false →
      t.take i = { spanned with marksLost := 1, flags := { TakeFlags.empty with sealMarkLost := true } } ∧
      t.events = withFlag u.events .markLost)

/-- The serial counter after some serials have been given from a value on (R105). -/
def serialAfter (counter given : Nat) : Nat :=
  if given = 0 then counter else (counter + given) % 4294967296

/-- The new serials that a typist's takes need when it gives up all of them: one for the current take and one
for the parked one (R66). -/
def Typist.serials (r : Typist) : Nat :=
  (if r.current = none then 0 else 1) + (if r.parked = none then 0 else 1)

/-- A TYPING or PARKED take that has gone back to CLOSED: held by no typist, typed-to kept, the latest start by
the office ratio, with its status, and a new serial (R11, R94, R96). -/
def State.givenBack (s : State) (i : TakeIx) (serial : Nat) : Take :=
  let k := s.take i
  let start := k.deadline.map (· - workEstimate (k.length - k.typedTo) s.params.officeRatio)
  { k with
    state := .closed, typist := none, package := none, latestStart := start
    status := statusAt s.officeTime s.params.margin start, serial := some serial }

/-- Between two states a typist that holds three takes at most, each in one place, has given them up: the
pending take is CLOSED with its serial kept, the current take takes the serial counter's value and the parked
take the next one, and each stands in the queue with its serial (R66, R105). -/
def State.givesUp (u t : State) (r : Typist) (counter : Nat) : Prop :=
  (∀ p, r.pending = some p → r.current ≠ some p.take → r.parked ≠ some p.take →
    t.take p.take = { u.take p.take with state := .closed, typist := none } ∧
    ∃ e ∈ t.queue, e.take = p.take ∧ e.serial = (u.take p.take).serial.getD 0) ∧
  (∀ i, r.current = some i → r.pending.map Pending.take ≠ some i → r.parked ≠ some i →
    t.take i = u.givenBack i counter ∧ ∃ e ∈ t.queue, e.take = i ∧ e.serial = counter) ∧
  ∀ i, r.parked = some i → r.pending.map Pending.take ≠ some i → r.current ≠ some i →
    let serial := serialAfter counter (if r.current = none then 0 else 1)
    t.take i = u.givenBack i serial ∧ ∃ e ∈ t.queue, e.take = i ∧ e.serial = serial

/-! ## Effects that several commands share -/

/-- What a RUSH does to a take between two states, the lines' answers apart (R90, R95, R97, R104, R121, R128
to R133). An OPEN take has its rush pending. In CLOSED, OFFERED and TYPING the take is RUSH with the
deadline of the rush rule, its latest start and status found anew; a CLOSED take's entry is moved to its
place with its serial kept, and one of another class triggers a pass. A PARKED take is CLOSED with a new
serial, a latest start by the office ratio and an entry of its own, which triggers a pass, and leaves its
typist's parked slot. -/
def State.rushEffect (u t : State) (i : TakeIx) : Prop :=
  let k := u.take i
  let deadline := k.deadline.map
    (fun d => min d (min 4294967295 (u.officeTime + u.params.rushAllowance)))
  let start (ratio : Nat) := deadline.map (· - workEstimate (k.length - k.typedTo) ratio)
  let status (ratio : Nat) := statusAt u.officeTime u.params.margin (start ratio)
  (∀ j, j ≠ i → t.take j = u.take j) ∧ u.raisesWorsened t ∧
  (k.state = .opened → t.take i = { k with rushPending := true } ∧
    { t with takes := u.takes, drops := u.drops, slot := u.slot } = u) ∧
  (k.state ∈ [.closed, .offered, .typing] →
    t.take i =
      { k with
        cls := some .rush, deadline := deadline
        latestStart := start (u.ratioFor k), status := status (u.ratioFor k) } ∧
    { t with
      takes := u.takes, drops := u.drops, slot := u.slot, events := u.events, queue := u.queue,
      passDue := u.passDue } = u) ∧
  (k.state = .closed → t.passDue = (u.passDue || decide (k.cls ≠ some .rush)) ∧ u.entryPlaced t i ∧
    ∀ e ∈ u.queue, e.take = i → ∃ f ∈ t.queue, f.take = i ∧ f.cls = .rush ∧
      f.start = ((t.take i).latestStart).getD 0 ∧
      ∃ g ∈ u.queue, g.take = i ∧ f.serial = g.serial ∧ f.rushWaiting = g.rushWaiting) ∧
  (k.state = .offered ∨ k.state = .typing → t.queue = u.queue ∧ t.passDue = u.passDue) ∧
  (k.state = .parked →
    t.take i =
      { k with
        state := .closed, typist := none, package := none, cls := some .rush, deadline := deadline
        latestStart := start u.params.officeRatio, status := status u.params.officeRatio
        serial := some u.serialCounter } ∧
    t.serialCounter = (u.serialCounter + 1) % 4294967296 ∧ t.passDue = true ∧ u.entryPlaced t i ∧
    (∃ e ∈ t.queue, e =
      ⟨i, .rush, (start u.params.officeRatio).getD 0, u.serialCounter, false⟩) ∧
    (∀ n, k.typist = some n → t.typist n = { u.typist n with parked := none }) ∧
    (∀ n, k.typist ≠ some n → t.typist n = u.typist n) ∧
    { t with
      takes := u.takes, typists := u.typists, drops := u.drops, slot := u.slot, events := u.events,
      queue := u.queue, serialCounter := u.serialCounter, passDue := u.passDue } = u)

/-- The typist record that a resumed take leaves: WORKING on it from its exchange package, with no parked take
(R10, R122). -/
def Typist.resumes (r : Typist) (p : TakeIx) (k : Package) (now : Nat) : Typist :=
  { r with
    state := .working, current := some p, parked := none
    context := some ⟨k.position, k.cursor, k.work, k.base, now, k.notes⟩ }

/-- A TYPING or PARKED take whose latest start has been found anew with a typist's ratio, and its status from
it (R94, R95, R96). -/
def State.restarted (s : State) (k : Take) (ratio : Nat) : Take :=
  let start := k.deadline.map (· - workEstimate (k.length - k.typedTo) ratio)
  { k with latestStart := start, status := statusAt s.officeTime s.params.margin start }

/-- The next state of a typist whose current take has left it, the first case of R79 that holds: one that
holds a SWITCH is OFFERED with it, its offer timer running on; one with a parked take is WORKING on that again,
from its exchange package, with a latest start by the typist's ratio and the status that follows; any other is
IDLE from now, which triggers a pass. Nothing else of the record changes but the ratio, which the last sample
of a DONE moves, and the count of a CUE that makes room (R10, R68, R79, R95, R122). -/
def State.nextAfterCurrent (u t : State) (n : TypistIx) : Prop :=
  let r := u.typist n
  let left : Typist :=
    { r with
      current := none, context := none, ratio := (t.typist n).ratio
      cuesDropped := (t.typist n).cuesDropped }
  (r.state = .switching → t.typist n = { left with state := .offered }) ∧
  (r.state ≠ .switching → r.parked = none →
    t.typist n = { left with state := .idle, idleSince := some u.officeTime } ∧ t.passDue = true) ∧
  ∀ p k, r.state ≠ .switching → r.parked = some p → (u.take p).package = some k →
    t.typist n = left.resumes p k u.officeTime ∧
    ((u.take p).typist = some n → t.take p =
      { u.restarted (u.take p) (t.typist n).ratio with state := .typing, package := none }) ∧
    { t.take p with latestStart := (u.take p).latestStart, status := (u.take p).status } =
      { u.take p with state := .typing, package := none }

/-- The typist record that the withdrawals of one cause leave, of the held takes that are not covered any more:
the pending take first, after which the typist is WORKING with its current take or IDLE from now; then the
parked take; then the current take, after which the first case of R79 that holds decides (R79, R80, R114,
R115, R136). -/
def State.relieved (u : State) (r : Typist) (covered : TakeIx → Bool) : Typist :=
  let r1 := match r.pending with
    | none => r
    | some p =>
      if covered p.take then r
      else if r.current = none then
        { r with pending := none, offerTimer := none, state := .idle, idleSince := some u.officeTime }
      else { r with pending := none, offerTimer := none, state := .working }
  let r2 := if r1.parked.all covered = true then r1 else { r1 with parked := none }
  if r2.current.all covered = true then r2
  else if r2.state = .switching then { r2 with current := none, context := none, state := .offered }
  else match r2.parked with
    | none => { r2 with current := none, context := none, state := .idle, idleSince := some u.officeTime }
    | some p => match (u.take p).package with
      | none => r2
      | some k => r2.resumes p k u.officeTime

/-- The outbound queue that the same withdrawals leave at a PRESENT drop: a WITHDRAW of the pending take and one
of the current take by the table of R116, the current take's CUEs removed first, and the RESUME of a parked
take that is left (R72, R114, R115, R116, R122; log entry 17). -/
def State.relievedOut (u : State) (r : Typist) (covered : TakeIx → Bool) (q : List Message) :
    List Message :=
  let q1 := match r.pending with
    | none => q
    | some p => if covered p.take then q else outWithdrawing false (u.handleOf p.take) q
  match r.current with
  | none => q1
  | some i =>
    if covered i then q1
    else
      let q2 := outWithdrawing true (u.handleOf i) (outLeaving (u.handleOf i) q1)
      match r.parked with
      | none => q2
      | some p => match (u.take p).package with
        | none => q2
        | some k => if covered p then outResuming (k.resume (u.handleOf p)) q2 else q2

/-- The record of an OPEN take of a session that has been CLOSED at a length, with or without CUT-SHORT: every
mark is brought within the length, the span ends, a rush pending is applied, the deadline is the office time plus
the session's allowance, held at the top, or the rush deadline where that is smaller, the latest start is by the
office ratio, with its status, and the serial is given (R5, R36, R89, R90, R94, R95, R105). -/
def State.closedRecord (u : State) (i : TakeIx) (x : SessionIx) (len : Nat) (cutShort : Bool)
    (serial : Nat) : Take :=
  let k := u.take i
  let allowed := min 4294967295 (u.officeTime + (u.session x).allowance.getD 0)
  let rushed := min 4294967295 (u.officeTime + u.params.rushAllowance)
  let deadline := if k.rushPending = true then min allowed rushed else allowed
  let start := deadline - workEstimate (len - k.typedTo) u.params.officeRatio
  { k with
    state := .closed, length := len, openSpan := none, rushPending := false
    cls := if k.rushPending = true then some .rush else k.cls
    marks := k.marks.map (fun m => { m with offset := min len m.offset })
    flags := { k.flags with
      cutShort := k.flags.cutShort || cutShort, overlong := k.flags.overlong || decide (len = 36000) }
    deadline := some deadline, latestStart := some start
    status := statusAt u.officeTime u.params.margin (some start), serial := some serial }

/-- The queue entry of a CLOSED take whose stay in the queue begins: its class, latest start and serial, with a
clear rush-waiting indicator (R103, R104, R121). -/
def Take.entry (k : Take) (i : TakeIx) : QueueEntry :=
  ⟨i, k.cls.getD .ordinary, k.latestStart.getD 0, k.serial.getD 0, false⟩

/-- Between two states an OPEN take of a session has been CLOSED at a length of 36000 at most, with or without
CUT-SHORT, and no other take has changed: its record is `closedRecord` with the serial counter's value, the take
stands in the queue, which triggers a pass, and the events of the status and of the length are raised (R5, R36,
R97, R103, R104, R105, R106). -/
def State.closes (u t : State) (i : TakeIx) (x : SessionIx) (len : Nat) (cutShort : Bool) : Prop :=
  t.take i = u.closedRecord i x len cutShort u.serialCounter ∧ (∀ j, j ≠ i → t.take j = u.take j) ∧
  (t.take i).entry i ∈ t.queue ∧ u.entryPlaced t i ∧
  t.serialCounter = (u.serialCounter + 1) % 4294967296 ∧ t.passDue = true ∧
  ∀ e, t.flagSet e = true ↔ u.flagSet e = true ∨ worsened (u.take i).status (t.take i).status = some e ∨
    (e = .overlong ∧ len = 36000 ∧ (u.take i).flags.overlong = false) ∨
    (e = .takeCutShort ∧ cutShort = true)

/-- Between two states the open take of a console's RECORDING session has been CLOSED with CUT-SHORT at its held
length: the span is carried, the session is BOUND with its end advanced, the console's timer and drift window
stop and its last code is absent, and TAKE-CUT-SHORT is raised (R5, R33, R37, R38, R54). -/
def State.cutShort (u t : State) (c : ConsoleIx) (x : SessionIx) (i : TakeIx) : Prop :=
  (t.take i).state = .closed ∧ (t.take i).flags.cutShort = true ∧
  (t.take i).length = min 36000 (u.take i).length ∧ (t.take i).openSpan = none ∧
  t.session x =
    { u.session x with
      state := .bound, openTake := none, sealCarry := (u.take i).openSpan.or (u.session x).sealCarry
      sessionEnd := (u.session x).sessionEnd.map (· + min 36000 (u.take i).length) } ∧
  t.console c = { u.console c with window := none, lastCode := none, grace := none } ∧
  t.flagSet .takeCutShort = true

/-! ## Laws that every record keeps -/

/-- R153 on one outbound queue: at most 4 messages, at most one ANSWER, at most one hand-off message, the
control messages ahead of every CUE. -/
abbrev queueLaw (q : List Message) : Prop :=
  q.length ≤ Config.outboundCapacity ∧ (q.filter Message.isAnswer).length ≤ 1 ∧
    (q.filter Message.isHandOff).length ≤ 1 ∧
    q = q.filter (!·.isCue) ++ q.filter (·.isCue)

/-- R153 on the whole link: every drop's queue keeps the law, and a console drop's queue holds only
ANSWERs. -/
abbrev State.linkLaw (s : State) : Prop :=
  (∀ d, queueLaw (s.drop d).out) ∧
    ∀ c : ConsoleIx, ∀ m ∈ (s.drop (consoleDrop c)).out, m.isAnswer = true

/-- R102 and R134: every typist's ratio lies in 16..255, and the clearance copy of its record is the
clearance unit's value. -/
abbrev State.rosterLaw (s : State) : Prop :=
  ∀ t : TypistIx, Config.lowRatio ≤ (s.typist t).ratio ∧ (s.typist t).ratio ≤ Config.topRatio ∧
    (s.typist t).clearance = s.clearance (typistDrop t)

/-- The ranges of the parameter table (10.3, R161). -/
abbrev Params.inRange (p : Params) : Prop :=
  (16 ≤ p.officeRatio ∧ p.officeRatio ≤ 255) ∧ p.margin ≤ 65535 ∧
    (5 ≤ p.offerTimeout ∧ p.offerTimeout ≤ 300) ∧ p.typistGrace ≤ 3600 ∧ p.consoleGrace ≤ 3600 ∧
    (60 ≤ p.rushAllowance ∧ p.rushAllowance ≤ 86400) ∧ (30 ≤ p.idleLimit ∧ p.idleLimit ≤ 1800) ∧
    (5 ≤ p.driftPerMille ∧ p.driftPerMille ≤ 100) ∧ p.auditInterval ≤ 3600 ∧
    p.auditExpected ≤ 65535 ∧ (200 ≤ p.replyTimeout ∧ p.replyTimeout ≤ 5000) ∧
    (2 ≤ p.rollCallDivisor ∧ p.rollCallDivisor ≤ 64)

/-- What 9.1 and R150 say of one drop entry: a miss count of 0..2, which is 0 unless the drop is PRESENT,
a roll-call count exactly while it is ABSENT, and no message waiting unless it is PRESENT. -/
abbrev Drop.law (r : Drop) : Prop :=
  r.misses ≤ 2 ∧ (r.state ≠ .present → r.misses = 0 ∧ r.out = []) ∧
    (r.rollCall.isSome = true ↔ r.state = .absent)

/-- R27 and R28 on the bindings: a console is bound to a session that is BOUND or RECORDING and names that
console. -/
abbrev State.bindingLaw (s : State) : Prop :=
  ∀ c x, (s.console c).bound = some x →
    (s.session x).console = some c ∧ ((s.session x).state = .bound ∨ (s.session x).state = .recording)

/-- The takes that a typist record holds by its state (R64): none in OFF and IDLE, a pending one in OFFERED,
a current one and perhaps a parked one in WORKING, a current one and a pending switch in SWITCHING. -/
def Typist.shape (r : Typist) : Prop :=
  match r.state with
  | .off | .idle => r.current = none ∧ r.parked = none ∧ r.pending = none
  | .offered => r.current = none ∧ r.parked = none ∧ r.pending.isSome = true
  | .working => r.current.isSome = true ∧ r.pending = none
  | .switching => r.current.isSome = true ∧ r.parked = none ∧ r.pending.map Pending.kind = some .switch

/-- Who holds what: an OFFERED, TYPING or PARKED take is its typist's pending, current or parked take and no
other's; a typist record holds what its state says; a take stands in the hand-off queue once while it is
CLOSED and never otherwise; an OPEN take is the open take of its session, which is RECORDING (R1, R25, R64,
R103). -/
def State.holdLaw (s : State) : Prop :=
  (∀ i, (s.take i).state = .offered →
    ∃ n, (s.take i).typist = some n ∧ (s.typist n).pending.map Pending.take = some i) ∧
  (∀ i, (s.take i).state = .typing →
    ∃ n, (s.take i).typist = some n ∧ (s.typist n).current = some i) ∧
  (∀ i, (s.take i).state = .parked →
    ∃ n, (s.take i).typist = some n ∧ (s.typist n).parked = some i) ∧
  (∀ n i, (s.typist n).pending.map Pending.take = some i →
    (s.take i).state = .offered ∧ (s.take i).typist = some n) ∧
  (∀ n i, (s.typist n).current = some i →
    (s.take i).state = .typing ∧ (s.take i).typist = some n) ∧
  (∀ n i, (s.typist n).parked = some i →
    (s.take i).state = .parked ∧ (s.take i).typist = some n) ∧
  (∀ n, (s.typist n).shape) ∧
  (∀ i, (s.take i).state = .closed ↔ ∃ e ∈ s.queue, e.take = i) ∧
  (s.queue.map QueueEntry.take).Nodup ∧
  (∀ x, (s.session x).state = .recording →
    ∃ i, (s.session x).openTake = some i ∧ (s.take i).state = .opened ∧ (s.take i).session = some x) ∧
  ∀ i, (s.take i).state = .opened →
    ∃ x, (s.take i).session = some x ∧ (s.session x).openTake = some i ∧ (s.session x).state = .recording

/-- A PARKED take, and no other, holds an exchange package, and a typist with a current take, and no other, holds
a working context (1.1, R9, R10, R68). -/
def State.contextLaw (s : State) : Prop :=
  (∀ i, (s.take i).package.isSome = true ↔ (s.take i).state = .parked) ∧
    ∀ n, (s.typist n).context.isSome = true ↔ (s.typist n).current.isSome = true

/-- What chapters 1, 3 and 5 say of one take record: typed-to within the length, which holds at 36000, and 0
while the take is OPEN; a deadline and a serial from the close on; a latest start exactly in CLOSED, OFFERED,
TYPING and PARKED; at most 255 marks, in offset order, within the length, and none in a FREE slot (R4, R13,
R14, R36, R45, R89, R94, R105). -/
def Take.law (k : Take) : Prop :=
  k.typedTo ≤ k.length ∧ k.length ≤ 36000 ∧ (k.state = .opened → k.typedTo = 0) ∧
    (k.deadline.isSome = true ↔ k.state ≠ .free ∧ k.state ≠ .opened) ∧
    (k.serial.isSome = true ↔ k.state ≠ .free ∧ k.state ≠ .opened) ∧
    (k.latestStart.isSome = true ↔ k.state ∈ [.closed, .offered, .typing, .parked]) ∧
    k.marks.length ≤ 255 ∧ k.marks.Pairwise (fun a b => a.offset ≤ b.offset) ∧
    (∀ m ∈ k.marks, m.offset ≤ k.length) ∧ (k.state = .free → k.marks = [])

/-- The directory and the cue table: every take keeps its law, and no identifier stands twice in all the
lists (R42). -/
def State.directoryLaw (s : State) : Prop :=
  (∀ i, (s.take i).law) ∧
    (s.takes.toList.flatMap (fun k => k.marks.map Mark.id)).Nodup

/-- The hand-off queue: it is in order, and an entry's keys are its take's class, latest start and serial
(6.1, R104). -/
def State.orderLaw (s : State) : Prop :=
  queueInOrder s.queue ∧ ∀ e ∈ s.queue, (s.take e.take).cls.getD .ordinary = e.cls ∧
    (s.take e.take).latestStart = some e.start ∧ (s.take e.take).serial = some e.serial

/-- No take that a typist holds has a level above the typist's recorded clearance or needs a qualification
that the typist lacks (R136). -/
def State.coverLaw (s : State) : Prop :=
  ∀ n i, (s.typist n).pending.map Pending.take = some i ∨ (s.typist n).current = some i ∨
      (s.typist n).parked = some i →
    (s.take i).level ≤ (s.typist n).clearance ∧ (s.typist n).quals.covers (s.take i).quals = true

end Sys2Proof.Machine
end

