-- ==== Sys2Proof/WellFormed.lean ====
section
/-!
DEFINITION. Which terms of `Instr` stand for something that can reach the part.

The operands' types already bound what a line can carry (a handle is 16 bits, a console one of 24).
What is left is checked here: a label's length byte counts at most 255 characters (R166), LIST is no
request of the host's and RESOLVE no request of a typist's (R57, R59, R152), a RESET pulse is 10
microseconds or longer (R169), and a transaction clocks in at least one byte (R158).
-/

namespace Sys2Proof

/-- A label that a length byte can count (R166). -/
def labelFits : Option Text → Bool
  | none => true
  | some t => decide (t.length ≤ 255)

/-- Whether a command can reach the part. Every other term is taken too, as its meaning says. -/
def Instr.wellFormed : Instr → Bool
  | .reset .powerOn => true
  | .reset (.pin us) => decide (10 ≤ us)
  | .goodReply frame => !frame.isEmpty
  | .markTake _ _ _ _ _ l => labelFits l
  | .sealTake _ _ l => labelFits l
  | .unsealTake _ l => labelFits l
  | .raiseQuery _ _ _ _ l => labelFits l
  | .resolveQuery (.typist _) _ _ _ => false
  | .resolveQuery _ _ _ l => labelFits l
  | .listMarks .host _ _ _ => false
  | .listMarks _ _ _ _ => true
  | .requestFrame bytes => !bytes.isEmpty
  | .spiRead n => decide (0 < n)
  | .officeTick | .offerTimerExpiry | .typistGraceExpiry | .consoleGraceExpiry | .driftWindowCheck
  | .auditCountdownExpiry | .placementPass | .pollRound | .pollTransaction | .replyMiss
  | .openTake _ | .closeTake _ _ | .rollTake _ _ | .locateMark _ _ _ _ _ _ | .rushTake _ _
  | .probeTake _ _ _ | .signOn _ | .signOff _ | .checkpoint _ _ _ | .doneTake _ _
  | .releaseTake _ _ | .acceptOffer _ _ | .declineOffer _ _ | .setClock _ | .setParam _ _
  | .readParam _ | .enableDrop _ | .disableDrop _ | .readDrop _ | .setTypist _ _ _ _
  | .readTypist _ | .setConsole _ _ | .lockClearance | .openSession _ _ _ _ _ _ | .endSession _
  | .readSession _ | .readTake _ | .scanTakes _ _ _ | .setDeadline _ _ | .setClass _ _
  | .relevel _ _ | .withdrawTake _ | .requeueTake _ _ | .certifyTake _ | .retireTake _
  | .readMarks _ _ | .readEvents | .clearEvents _ | .setMask _ | .clearCounts => true

end Sys2Proof
end

