-- ==== Sys2Proof/Certificates/Slice0/Obligations.lean ====
section
/-!
DEFINITION. The statements for the provers. Every statement is about all states; `s.settled` is the state
with the placement pass taken that the last event has triggered (R106; log entry 2), and `hostReady` and
`stationReady` say when a request of either line is taken (log entries 4 and 5).
-/

open Sys2Proof Sys2Proof.Machine

/-! ## The machine -/

/-- A step takes the command at the front of the queue, with the queue's rest; an empty queue idles, which is
the model's choice (log entry 7). -/
def Obligations.StepTakesTheFrontCommand : Prop :=
  (∀ (c : Instr) (cs : List Instr) (s : State), s.pending = c :: cs → step s = exec c (s.withPending cs)) ∧
    ∀ s : State, s.pending = [] → step s = .next s

/-- Every command is carried out in every state, and none touches the queue of commands that wait, RESET
included (log entries 7 and 25). The one exception is a RESET pulse shorter than 10 microseconds, which the
manual keeps outside the operating conditions (R169; log entry 1). -/
def Obligations.EveryCommandIsCarriedOut : Prop :=
  ∀ (c : Instr) (s : State),
    (∀ us, c = .reset (.pin us) → us < 10 → exec c s = .fault .resetPulseTooShort) ∧
      ((∀ us, c = .reset (.pin us) → 10 ≤ us) → ∃ t, exec c s = .next t ∧ t.pending = s.pending)

/-- RESET, by power or by a pulse of 10 microseconds or longer, gives the reset state, and the waiting
commands, which are not the part's, stay (log entry 25). What the reset state holds, block by block (R1, R25,
R63, R87, R103, R105, R134, R142, R145, R157, R161, R163, R169). -/
def Obligations.ResetGivesTheResetState : Prop :=
  (∀ (s : State) (us : Nat),
    exec (.reset .powerOn) s = .next (State.reset.withPending s.pending) ∧
      (10 ≤ us → exec (.reset (.pin us)) s = .next (State.reset.withPending s.pending))) ∧
  let z := State.reset
  (∀ i, (z.take i).state = .free ∧ (z.take i).gen = 0 ∧ (z.take i).marks = []) ∧
  (∀ x, (z.session x).state = .free) ∧
  (∀ c, (z.console c).bound = none ∧ (z.console c).drift = .inStep ∧ (z.console c).window = none ∧
    (z.console c).lastCode = none ∧ (z.console c).grace = none) ∧
  (∀ t, (z.typist t).state = .off ∧ (z.typist t).clearance = 0 ∧ (z.typist t).quals = .empty ∧
    (z.typist t).ratio = 64 ∧ (z.typist t).cuesDropped = 0 ∧ (z.typist t).offersMissed = 0) ∧
  (∀ d, (z.drop d).state = .disabled ∧ (z.drop d).misses = 0 ∧ (z.drop d).rollCall = none ∧
    (z.drop d).out = [] ∧ (z.drop d).linkErrors = 0 ∧ z.clearance d = 0) ∧
  z.officeTime = 0 ∧ z.queue = [] ∧ z.serialCounter = 0 ∧ z.clearanceLock = false ∧
  z.auditFailure = false ∧ z.lastAuditSum = 0 ∧ z.auditCountdown = some 60 ∧ z.events = 0 ∧
  z.masks = 0 ∧ z.attn = false ∧ z.slot = .empty ∧ z.ready = false ∧
  ([1, 2, 3, 4, 5, 6, 7, 8, 9, 10, 11, 12].map z.params.get =
    [64, 900, 30, 120, 60, 1800, 300, 20, 60, 0, 1000, 16])

/-! ## The supervisor port -/

/-- The event flags. READ-EVENTS answers the flags and the masks and changes nothing; CLEAR-EVENTS clears the
flags selected and answers the flags before and after; SET-MASK replaces the masks; a position beyond the 14
flags is ignored with CLAMPED. A flag is sticky: only CLEAR-EVENTS and RESET clear one. ATTN is asserted
exactly while some flag is set whose mask is 0 (R163, R164, 10.4; log entries 2 and 4). -/
def Obligations.EventFlags : Prop :=
  (∀ (s : State) (w : Half),
    let u := s.settled
    (s.hostReady .readEvents →
      exec .readEvents s = .next (u.respond
        ⟨0x1A, .ok, false, false, false, [.half u.events.toNat, .half u.masks.toNat]⟩)) ∧
    (s.hostReady (.clearEvents w) →
      exec (.clearEvents w) s = .next (({ u with events := u.events &&& ~~~(w.setWidth 14) } : State).respond
        ⟨0x1B, .ok, decide (2 ^ 14 ≤ w.toNat), false, false,
          [.half u.events.toNat, .half (u.events &&& ~~~(w.setWidth 14)).toNat]⟩)) ∧
    (s.hostReady (.setMask w) →
      exec (.setMask w) s = .next (({ u with masks := w.setWidth 14 } : State).respond
        ⟨0x1C, .ok, decide (2 ^ 14 ≤ w.toNat), false, false,
          [.half (w.setWidth 14).toNat, .half u.events.toNat]⟩))) ∧
  (∀ (c : Instr) (s t : State) (e : Event), exec c s = .next t → c.isReset = false →
    (∀ w, c ≠ .clearEvents w) → s.flagSet e = true → t.flagSet e = true) ∧
  ∀ s : State, s.attn = true ↔ ∃ e : Event, s.flagSet e = true ∧ s.masks.getLsbD e.bit = false

/-- READ-PARAM: UNKNOWN outside 1..12; otherwise OK with the number and the value, with the last audit sum,
the failure and the lock for 10, and with the countdown for 9; it changes nothing (R162; log entries 2 and
4). -/
def Obligations.ReadParam : Prop :=
  ∀ (s : State) (n : Byte), s.hostReady (.readParam n) →
    let u := s.settled
    exec (.readParam n) s = .next (u.respond (
      if n.toNat < 1 ∨ 12 < n.toNat then ⟨0x03, .unknown, false, false, false, []⟩
      else ⟨0x03, .ok, false, false, false,
        [.small n.toNat, .quad (u.params.get n.toNat)] ++
          (if n.toNat = 10 then [.half u.lastAuditSum, .flag u.auditFailure, .flag u.clearanceLock]
          else if n.toNat = 9 then
            (match u.auditCountdown with
            | none => [.absent]
            | some k => [.present, .half k])
          else [])⟩))

/-- SET-PARAM: UNKNOWN outside 1..12; otherwise the value, brought into the parameter's range by the table of
10.3, replaces the parameter. Parameters 2 to 8 and 11 have no effect at once. The audit interval loads the countdown, 0 stopping
it, and with no audit due does no more; the roll-call divisor lowers every running roll-call count above the
divisor less one; a changed office ratio gives every CLOSED and OFFERED take a new latest start and status,
puts the queue in order and triggers a pass (R95, R97, R99, R104, R142, R148, R161). The audit expected value,
and a write of the interval that finds an audit due, are in `AuditIsTaken`. -/
def Obligations.SetParam : Prop :=
  ∀ (s : State) (n : Byte) (v : Quad), s.hostReady (.setParam n v) →
    let u := s.settled
    let ranges : List (Nat × Nat × Nat) := [
      (1, 16, 255), (2, 0, 65535), (3, 5, 300), (4, 0, 3600), (5, 0, 3600), (6, 60, 86400), (7, 30, 1800),
      (8, 5, 100), (9, 0, 3600), (10, 0, 65535), (11, 200, 5000), (12, 2, 64)]
    ((n.toNat < 1 ∨ 12 < n.toNat) →
      exec (.setParam n v) s = .next (u.respond ⟨0x02, .unknown, false, false, false, []⟩)) ∧
    ∀ low high : Nat, (n.toNat, low, high) ∈ ranges →
      let taken := if v.toNat < low then low else if high < v.toNat then high else v.toNat
      let answer : Answer := ⟨0x02, .ok, decide (taken ≠ v.toNat), false, false,
        [.small n.toNat, .quad (u.params.get n.toNat), .quad taken]⟩
      n.toNat ≠ 10 → ∃ t : State, exec (.setParam n v) s = .next t ∧
        t.slot = .responseWaiting answer ∧ t.params.get n.toNat = taken ∧
        (∀ k ∈ [1, 2, 3, 4, 5, 6, 7, 8, 9, 10, 11, 12], k ≠ n.toNat →
          t.params.get k = u.params.get k) ∧
        (n.toNat ∈ [2, 3, 4, 5, 6, 7, 8, 11] ∨ taken = u.params.get 1 ∧ n.toNat = 1 →
          { t with params := u.params, slot := u.slot } = u) ∧
        (n.toNat = 9 → t.auditCountdown = (if taken = 0 then none else some taken) ∧
          (u.auditCountdown ≠ some 0 →
            { t with params := u.params, slot := u.slot, auditCountdown := u.auditCountdown } = u)) ∧
        (n.toNat = 12 →
          (∀ d, t.drop d =
            { u.drop d with rollCall := (u.drop d).rollCall.map (min (taken - 1)) }) ∧
          { t with params := u.params, slot := u.slot, drops := u.drops } = u) ∧
        (n.toNat = 1 → taken ≠ u.params.get 1 → t.passDue = true ∧
          (∀ i, t.take i =
            if (u.take i).state = .closed ∨ (u.take i).state = .offered then
              let start := (u.take i).deadline.map
                (· - workEstimate ((u.take i).length - (u.take i).typedTo) taken)
              { u.take i with
                latestStart := start, status := statusAt u.officeTime u.params.margin start }
            else u.take i) ∧
          (∀ e, t.flagSet e = true ↔ u.flagSet e = true ∨
            ∃ i, worsened (u.take i).status (t.take i).status = some e) ∧
          (t.queue.map QueueEntry.take).Perm (u.queue.map QueueEntry.take) ∧
          (∀ e ∈ t.queue, e.start = (t.take e.take).latestStart.getD 0 ∧
            ∃ f ∈ u.queue, f.take = e.take ∧ f.serial = e.serial) ∧
          t.queue.Pairwise (fun a b => b.before a = false) ∧
          { t with
            params := u.params, slot := u.slot, takes := u.takes, events := u.events,
            queue := u.queue, passDue := u.passDue } = u)

/-- An audit is taken at a write of the audit expected value, after the new value is in place, and by
AUDIT_COUNTDOWN_EXPIRY with the countdown at 0, which is then loaded again, an interval of 0 stopping it. A
write of the interval that finds the countdown at 0 comes after that audit and loads the countdown. The sum of
the clearances weighted by drop number is stored, and a failure stands after it exactly when the sum differs
from the expected value. A failure that begins raises AUDIT-FAIL and withdraws every offer of a take above
level 0: the take is CLOSED with its serial and exclusion list kept and stands in the queue, its typist is
WORKING with its current take or IDLE from now, and the withdrawal is handed to a PRESENT drop by the table of
R116; every other offer stands. A failure that ends triggers a pass. When none begins, takes, typists, queue
and drops are as they were (R8, R114, R116, R142, R143, R144, R161; log entries 3 and 17). -/
def Obligations.AuditIsTaken : Prop :=
  ∀ s : State,
    let u := s.settled
    let sum := ((List.finRange 72).map (fun d => (u.clearance d).val * (d.val + 1))).sum
    let audited (t : State) (goal : Nat) : Prop :=
      t.lastAuditSum = sum ∧ t.auditFailure = decide (sum ≠ goal) ∧
      (t.flagSet .auditFail = true ↔
        u.flagSet .auditFail = true ∨ (sum ≠ goal ∧ u.auditFailure = false)) ∧
      (¬(sum ≠ goal ∧ u.auditFailure = false) →
        t.passDue = (u.passDue || decide (sum = goal) && u.auditFailure) ∧ t.takes = u.takes ∧
        t.typists = u.typists ∧ t.queue = u.queue ∧ t.drops = u.drops) ∧
      (sum ≠ goal → u.auditFailure = false →
        let ends (n : TypistIx) (p : Pending) : Prop :=
          (u.typist n).pending = some p ∧ 0 < (u.take p.take).level
        (∀ n p, ends n p →
          { t.typist n with cuesDropped := (u.typist n).cuesDropped } =
            (if (u.typist n).current = none then
              { u.typist n with
                pending := none, offerTimer := none, state := .idle, idleSince := some u.officeTime }
            else { u.typist n with pending := none, offerTimer := none, state := .working }) ∧
          t.take p.take = { u.take p.take with state := .closed, typist := none } ∧
          (∃ e ∈ t.queue, e.take = p.take ∧ e.serial = (u.take p.take).serial.getD 0) ∧
          t.passDue = true ∧
          ((u.drop (typistDrop n)).state = .present → t.drop (typistDrop n) =
            { u.drop (typistDrop n) with
              out := outWithdrawing false (u.handleOf p.take) (u.drop (typistDrop n)).out })) ∧
        (∀ n, (∀ p, ¬ends n p) →
          t.typist n = u.typist n ∧ t.drop (typistDrop n) = u.drop (typistDrop n)) ∧
        (∀ c, t.drop (consoleDrop c) = u.drop (consoleDrop c)) ∧
        (∀ i, (∀ n p, ends n p → p.take ≠ i) → t.take i = u.take i) ∧
        ((∀ n p, ¬ends n p) → t.passDue = u.passDue ∧ t.queue = u.queue)) ∧
      { t with
        slot := u.slot, auditCountdown := u.auditCountdown, lastAuditSum := u.lastAuditSum,
        auditFailure := u.auditFailure, params := u.params, events := u.events, takes := u.takes,
        queue := u.queue, passDue := u.passDue, drops := u.drops, typists := u.typists } = u
    (∀ v : Quad, s.hostReady (.setParam 10 v) →
      let taken := min 65535 v.toNat
      ∃ t : State, exec (.setParam 10 v) s = .next t ∧ audited t taken ∧
        t.params = { u.params with auditExpected := taken } ∧ t.auditCountdown = u.auditCountdown ∧
        t.slot = .responseWaiting ⟨0x02, .ok, decide (65535 < v.toNat), false, false,
          [.small 10, .quad u.params.auditExpected, .quad taken, .half sum,
            .flag (decide (sum ≠ taken))]⟩) ∧
    (∀ v : Quad, s.hostReady (.setParam 9 v) → u.auditCountdown = some 0 →
      let taken := min 3600 v.toNat
      ∃ t : State, exec (.setParam 9 v) s = .next t ∧ audited t u.params.auditExpected ∧
        t.params = { u.params with auditInterval := taken } ∧
        t.auditCountdown = (if taken = 0 then none else some taken) ∧
        t.slot = .responseWaiting ⟨0x02, .ok, decide (3600 < v.toNat), false, false,
          [.small 9, .quad u.params.auditInterval, .quad taken]⟩) ∧
    (u.auditCountdown ≠ some 0 → exec .auditCountdownExpiry s = .next u) ∧
    (u.auditCountdown = some 0 → ∃ t : State, exec .auditCountdownExpiry s = .next t ∧
      audited t u.params.auditExpected ∧ t.params = u.params ∧ t.slot = u.slot ∧
      t.auditCountdown = (if u.params.auditInterval = 0 then none else some u.params.auditInterval))

/-- CLEAR-COUNTS: the link error count of every drop, the cues-dropped and offers-missed counts of every
typist and the marks-lost count of every take are 0 after it, nothing else changes, and the answer is OK
(R165; log entries 2 and 4); after reset every one of these counts is 0. -/
def Obligations.ClearCounts : Prop :=
  (∀ s : State, s.hostReady .clearCounts →
    let u := s.settled
    ∃ t : State, exec .clearCounts s = .next t ∧
      t.slot = .responseWaiting ⟨0x1D, .ok, false, false, false, []⟩ ∧
      (∀ d, t.drop d = { u.drop d with linkErrors := 0 }) ∧
      (∀ n, t.typist n = { u.typist n with cuesDropped := 0, offersMissed := 0 }) ∧
      (∀ i, t.take i = { u.take i with marksLost := 0 }) ∧
      { t with slot := u.slot, drops := u.drops, typists := u.typists, takes := u.takes } = u) ∧
  (∀ d, (State.reset.drop d).linkErrors = 0) ∧
  (∀ n, (State.reset.typist n).cuesDropped = 0 ∧ (State.reset.typist n).offersMissed = 0) ∧
  ∀ i, (State.reset.take i).marksLost = 0

/-- A read shifts out the response, or the no-response frame while none waits, from the first byte, then FFh.
A response read out in full is removed and READY falls; one read in part stays; without a response nothing
changes but the pin (R159, R168; log entries 2 and 9). -/
def Obligations.SpiRead : Prop :=
  ∀ (s : State) (n : Nat), 0 < n →
    let u := s.settled
    let shifted (bs : List Byte) := bs.take n ++ List.replicate (n - bs.length) 0xFF#8
    match s.slot with
    | .responseWaiting a =>
      exec (.spiRead n) s = .next { u with
        miso := shifted a.responseFrame
        slot := if a.responseFrame.length ≤ n then .empty else .responseWaiting a }
    | _ => exec (.spiRead n) s = .next { u with miso := shifted [0, 0] }

/-- A request frame written to an EMPTY slot. A frame whose length counts its bytes, with a code of the
summary and parameters that fit it, is handed on; every other frame is answered UNKNOWN by the port, with code
00h where it holds none (R158, R168; log entries 2 and 9). -/
def Obligations.RequestFrameJudged : Prop :=
  ∀ (s : State) (bytes : List Byte), s.slot = .empty → bytes.any (· ≠ 0xFF#8) = true →
    let u := s.settled
    let unknown (code : Nat) : Answer := ⟨code, .unknown, false, false, false, []⟩
    ∃ t : State, exec (.requestFrame bytes) s = .next t ∧ { t with slot := u.slot, miso := u.miso } = u ∧
      (bytes.length < 3 → t.slot = .responseWaiting (unknown 0)) ∧
      ∀ (hi lo code : Byte) (ps : List Byte), bytes = hi :: lo :: code :: ps →
        t.slot =
          if hi.toNat * 256 + lo.toNat = ps.length + 3 then
            match Decode.hostRequest code.toNat ps with
            | .request i => .inProgress i
            | _ => .responseWaiting (unknown code.toNat)
          else .responseWaiting (unknown code.toNat)

/-- A request frame whose write ends while the slot is busy is ignored, and SUPERVISOR-OVERRUN is raised; a
write that finds the slot EMPTY raises nothing (R160). -/
def Obligations.BusySlotIsAnOverrun : Prop :=
  ∀ (s : State) (bytes : List Byte), bytes.any (· ≠ 0xFF#8) = true →
    let u := s.settled
    (s.slot ≠ .empty → ∃ t : State, exec (.requestFrame bytes) s = .next t ∧
      t.events = withFlag u.events .supervisorOverrun ∧ { t with events := u.events, miso := u.miso } = u) ∧
    (s.slot = .empty → ∃ t : State, exec (.requestFrame bytes) s = .next t ∧ t.events = u.events)

/-! ## Time -/

/-- OFFICE_TICK, after what the tick before has left to expire: office time rises by one and holds at the top;
every running offer, grace and audit timer is lowered by one; the work seconds of a WORKING or SWITCHING
typist that is not away and has been active within the idle limit rise by one; the status of every CLOSED,
OFFERED, TYPING and PARKED take is found against the new time. Where no timer stands at 0 and no drift window
is due, the tick before has left nothing (R37, R73, R83, R87, R98, R112, R142; log entries 3 and 26). -/
def Obligations.OfficeTick : Prop :=
  ∀ s : State,
    let v := s.settled.finishTick
    ((∀ n, (s.settled.typist n).offerTimer ≠ some 0 ∧ (s.settled.typist n).grace ≠ some 0) →
      (∀ c, (s.settled.console c).grace ≠ some 0 ∧
        ∀ w, (s.settled.console c).window = some w → s.settled.officeTime < w.startSecond + 60) →
      s.settled.auditCountdown ≠ some 0 → v = s.settled) ∧
    ∃ t : State, exec .officeTick s = .next t ∧ t.officeTime = min 4294967295 (v.officeTime + 1) ∧
      (∀ n, t.typist n =
        { v.typist n with
          offerTimer := (v.typist n).offerTimer.map (· - 1)
          grace := (v.typist n).grace.map (· - 1)
          context := (v.typist n).context.map (fun c =>
            if ((v.typist n).state = .working ∨ (v.typist n).state = .switching) ∧
                (v.typist n).away = false ∧ t.officeTime - c.lastActivity < v.params.idleLimit then
              { c with work := min 65535 (c.work + 1) }
            else c) }) ∧
      (∀ c, t.console c = { v.console c with grace := (v.console c).grace.map (· - 1) }) ∧
      t.auditCountdown = v.auditCountdown.map (· - 1) ∧
      (∀ i, t.take i =
        if (v.take i).state.watched then
          { v.take i with status := statusAt t.officeTime v.params.margin (v.take i).latestStart }
        else v.take i) ∧
      (∀ e, t.flagSet e = true ↔
        v.flagSet e = true ∨ ∃ i, worsened (v.take i).status (t.take i).status = some e) ∧
      { t with
        officeTime := v.officeTime, typists := v.typists, consoles := v.consoles,
        auditCountdown := v.auditCountdown, takes := v.takes, events := v.events } = v

/-- SET-CLOCK without a value answers the office time and changes nothing; with a value it sets it, moves
every idle-since and last activity by the same amount, held at 0 and at the top, and restarts every running
drift window at the new time and the console's last code (R39, R74, R88; log entries 2 and 4). -/
def Obligations.SetClock : Prop :=
  ∀ s : State,
    let u := s.settled
    (s.hostReady (.setClock none) →
      exec (.setClock none) s =
        .next (u.respond ⟨0x01, .ok, false, false, false, [.quad u.officeTime]⟩)) ∧
    ∀ v : Quad, s.hostReady (.setClock (some v)) →
      let move (x : Nat) :=
        if u.officeTime ≤ v.toNat then min 4294967295 (x + (v.toNat - u.officeTime))
        else x - (u.officeTime - v.toNat)
      ∃ t : State, exec (.setClock (some v)) s = .next t ∧ t.officeTime = v.toNat ∧
        t.slot = .responseWaiting
          ⟨0x01, .ok, false, false, false, [.quad u.officeTime, .quad v.toNat]⟩ ∧
        (∀ n, t.typist n =
          { u.typist n with
            idleSince := (u.typist n).idleSince.map move
            context := (u.typist n).context.map (fun c =>
              { c with lastActivity := move c.lastActivity }) }) ∧
        (∀ c, t.console c =
          { u.console c with
            window := (u.console c).window.map (fun w =>
              ⟨v.toNat, (u.console c).lastCode.getD w.startCode⟩) }) ∧
        { t with
          officeTime := u.officeTime, slot := u.slot, typists := u.typists, consoles := u.consoles } = u

/-- OFFER_TIMER_EXPIRY ends the offer of every typist whose timer stands at 0, and of no other: the pending
take and the timer become absent, offers-missed rises by one, holding at 255, and the typist is WORKING with
its current take or becomes IDLE now. The take is CLOSED again with its serial kept and stands in the queue,
and a typist that alone held it is in its exclusion list. The OFFER or SWITCH that waits unsent at its drop is
removed, and one that has been sent is followed by a WITHDRAW. An offer that ends triggers a pass (R8, R106,
R112, R113, R116; log entries 2, 3 and 17). -/
def Obligations.OfferTimerExpiry : Prop :=
  ∀ s : State,
    let u := s.settled
    let due (n : TypistIx) : Prop := (u.typist n).offerTimer = some 0
    ∃ t : State, exec .offerTimerExpiry s = .next t ∧
      (∀ n, ¬due n → t.typist n = u.typist n) ∧
      (∀ n p, due n → (u.typist n).pending = some p →
        (t.typist n).pending = none ∧ (t.typist n).offerTimer = none ∧
        (t.typist n).offersMissed = min 255 ((u.typist n).offersMissed + 1) ∧
        (t.typist n).current = (u.typist n).current ∧ (t.typist n).parked = (u.typist n).parked ∧
        ((u.typist n).current ≠ none → (t.typist n).state = .working) ∧
        ((u.typist n).current = none →
          (t.typist n).state = .idle ∧ (t.typist n).idleSince = some u.officeTime) ∧
        (t.take p.take).state = .closed ∧ (t.take p.take).typist = none ∧
        (t.take p.take).serial = (u.take p.take).serial ∧ (∃ e ∈ t.queue, e.take = p.take) ∧
        t.passDue = true ∧
        ((∀ m q, (u.typist m).pending = some q → q.take = p.take → m = n) →
          n ∈ (t.take p.take).exclusion) ∧
        t.drop (typistDrop n) = { u.drop (typistDrop n) with
          out := if (u.drop (typistDrop n)).state = .present then
              outWithdrawing false (u.handleOf p.take) (u.drop (typistDrop n)).out
            else (u.drop (typistDrop n)).out.filter (fun m => !m.offers (u.handleOf p.take)) }) ∧
      (∀ n, ¬due n → t.drop (typistDrop n) = u.drop (typistDrop n)) ∧
      (∀ c, t.drop (consoleDrop c) = u.drop (consoleDrop c)) ∧
      (∀ i, (∀ n p, due n → (u.typist n).pending = some p → p.take ≠ i) → t.take i = u.take i) ∧
      ((∀ n, ¬due n) → t = u) ∧
      { t with
        takes := u.takes, queue := u.queue, passDue := u.passDue, drops := u.drops,
        typists := u.typists } = u

/-- TYPIST_GRACE_EXPIRY signs off every typist whose grace timer stands at 0, and no other: it becomes OFF,
away as it was, and TYPIST-LOST is raised, beside the events of the statuses that have worsened. Every take it
held is CLOSED with its typed-to kept. Who holds what being as it should (`HoldLawIsKept`), a pending take keeps
its serial, and the current and the parked take of each typist, in ascending typist number, take the next
serials (R66, R83, R97, R105; log entry 3). -/
def Obligations.TypistGraceExpiry : Prop :=
  ∀ s : State,
    let u := s.settled
    let due (n : TypistIx) : Prop := (u.typist n).grace = some 0
    let held (i : TakeIx) : Prop := ∃ n, due n ∧ ((u.typist n).current = some i ∨
      (u.typist n).parked = some i ∨ (u.typist n).pending.map Pending.take = some i)
    let given (n : TypistIx) : Nat := if due n then (u.typist n).serials else 0
    ∃ t : State, exec .typistGraceExpiry s = .next t ∧
      (∀ n, t.typist n = if due n then
          { u.typist n with
            state := .off, current := none, parked := none, pending := none, offerTimer := none,
            context := none, idleSince := none, grace := none }
        else u.typist n) ∧
      (∀ i, held i → (t.take i).state = .closed ∧ (t.take i).typist = none ∧
        (t.take i).typedTo = (u.take i).typedTo ∧ ∃ e ∈ t.queue, e.take = i) ∧
      (∀ i, ¬held i → t.take i = u.take i) ∧
      (t.flagSet .typistLost = true ↔ u.flagSet .typistLost = true ∨ ∃ n, due n) ∧
      (∀ e, t.flagSet e = true ↔ u.flagSet e = true ∨ (e = .typistLost ∧ ∃ n, due n) ∨
        ∃ i, worsened (u.take i).status (t.take i).status = some e) ∧
      t.serialCounter = serialAfter u.serialCounter ((List.finRange 48).map given).sum ∧
      (u.holdLaw → ∀ n, due n → u.givesUp t (u.typist n)
        (serialAfter u.serialCounter (((List.finRange 48).filter (· < n)).map given).sum)) ∧
      { t with
        takes := u.takes, typists := u.typists, events := u.events, serialCounter := u.serialCounter,
        queue := u.queue, passDue := u.passDue } = u

/-- CONSOLE_GRACE_EXPIRY, for every console whose grace timer stands at 0 and whose session records: the open
take is CLOSED at its held length with CUT-SHORT, the session is BOUND with its end advanced, the timer and the
drift window stop, the last code is absent, and TAKE-CUT-SHORT is raised. Each take that is cut short has the
record of a close, its deadline, class and latest start among it, and stands in the queue, where the other
entries keep their order; the consoles' takes, in ascending console number, take the next serials; a close
triggers a pass, and the events of the statuses that have worsened and of the lengths that have reached 36000
are raised. Of a console whose session does not record, the timer alone stops. Consoles whose timer does not
stand at 0 are left. The binding law (`RecordLawsAreKept`) and the hold law (`HoldLawIsKept`), which every step
keeps, are assumed (R5, R33, R36, R37, R38, R89, R97, R103, R104, R105, R106; log entry 3). -/
def Obligations.ConsoleGraceExpiry : Prop :=
  ∀ s : State,
    let u := s.settled
    let due (c : ConsoleIx) : Prop := (u.console c).grace = some 0
    let cut (c : ConsoleIx) : Nat :=
      if due c ∧ (u.console c).bound.any (fun x => decide ((u.session x).state = .recording)) = true then 1
      else 0
    u.bindingLaw → u.holdLaw →
    ∃ t : State, exec .consoleGraceExpiry s = .next t ∧
      (∀ c, ¬due c → t.console c = u.console c) ∧
      (∀ c, due c → (∀ x, (u.console c).bound = some x → (u.session x).state ≠ .recording) →
        t.console c = { u.console c with grace := none }) ∧
      (∀ c x i, due c → (u.console c).bound = some x → (u.session x).state = .recording →
        (u.session x).openTake = some i → u.cutShort t c x i ∧
        t.take i = u.closedRecord i x (min 36000 (u.take i).length) true
          (serialAfter u.serialCounter (((List.finRange 24).filter (· < c)).map cut).sum) ∧
        (t.take i).entry i ∈ t.queue) ∧
      t.serialCounter = serialAfter u.serialCounter ((List.finRange 24).map cut).sum ∧
      t.queue.filter (fun e => (u.take e.take).state = .closed) = u.queue ∧
      (queueInOrder u.queue → queueInOrder t.queue) ∧
      t.passDue = (u.passDue || decide (∃ c, cut c = 1)) ∧
      (∀ e, t.flagSet e = true ↔ u.flagSet e = true ∨ (e = .takeCutShort ∧ ∃ c, cut c = 1) ∨
        ∃ i, worsened (u.take i).status (t.take i).status = some e ∨
          (e = .overlong ∧ (t.take i).flags.overlong = true ∧ (u.take i).flags.overlong = false)) ∧
      (∀ x, (∀ c, due c → (u.console c).bound ≠ some x) → t.session x = u.session x) ∧
      (∀ i, (∀ c x, due c → (u.console c).bound = some x → (u.session x).openTake ≠ some i) →
        t.take i = u.take i) ∧
      { t with
        takes := u.takes, sessions := u.sessions, consoles := u.consoles, events := u.events,
        serialCounter := u.serialCounter, queue := u.queue, passDue := u.passDue } = u

/-- DRIFT_WINDOW_CHECK, for every console whose window has run 60 seconds or more: the advance of the time
code is compared with ten tenths for every office second, within the tolerance rounded up. A failure leaves
the console in DRIFT and its open take TIMING-SUSPECT, a pass leaves it IN-STEP, and the window restarts at
the present second and the last code. CONSOLE-DRIFT is raised by a console that enters DRIFT, no other event is
raised, and no other take is changed (R40, R41; log entry 3). -/
def Obligations.DriftWindowCheck : Prop :=
  ∀ s : State,
    let u := s.settled
    let due (c : ConsoleIx) (w : DriftWindow) : Prop :=
      (u.console c).window = some w ∧ w.startSecond + 60 ≤ u.officeTime
    let lastOf (c : ConsoleIx) (w : DriftWindow) : Nat := (u.console c).lastCode.getD w.startCode
    let fails (c : ConsoleIx) (w : DriftWindow) : Prop :=
      let advance := lastOf c w - w.startCode
      let expected := 10 * (u.officeTime - w.startSecond)
      let tolerance := (expected * u.params.driftPerMille + 999) / 1000
      tolerance < if advance ≤ expected then expected - advance else advance - expected
    ∃ t : State, exec .driftWindowCheck s = .next t ∧
      (∀ c, (∀ w, ¬due c w) → t.console c = u.console c) ∧
      (∀ c w, due c w → fails c w →
        t.console c = { u.console c with window := some ⟨u.officeTime, lastOf c w⟩, drift := .drift } ∧
        ∀ x i, (u.console c).bound = some x → (u.session x).openTake = some i →
          (t.take i).flags.timingSuspect = true) ∧
      (∀ c w, due c w → ¬fails c w →
        t.console c = { u.console c with window := some ⟨u.officeTime, lastOf c w⟩, drift := .inStep }) ∧
      (t.flagSet .consoleDrift = true ↔ u.flagSet .consoleDrift = true ∨
        ∃ c w, due c w ∧ fails c w ∧ (u.console c).drift = .inStep) ∧
      (∀ e, e ≠ .consoleDrift → t.flagSet e = u.flagSet e) ∧
      (∀ i, { t.take i with flags := (u.take i).flags } = u.take i ∧
        { (t.take i).flags with timingSuspect := (u.take i).flags.timingSuspect } = (u.take i).flags ∧
        ((t.take i).flags.timingSuspect = true ↔ (u.take i).flags.timingSuspect = true ∨
          ∃ c w x, due c w ∧ fails c w ∧ (u.console c).bound = some x ∧ (u.session x).openTake = some i)) ∧
      { t with takes := u.takes, consoles := u.consoles, events := u.events } = u

/-! ## The placement pass -/

/-- A pass that has been triggered is taken before the next command, and PLACEMENT_PASS takes it and no more.
It leaves no entry in the queue for which some typist is still eligible by the conditions of R107, and no RUSH
entry for which some typist is a candidate by those of R117; a RUSH entry it leaves is marked as waiting.
RUSH-WAITING is raised exactly when a RUSH entry is left whose indicator was clear. Who holds what being as it
should (`HoldLawIsKept`), only an eligible typist is offered a take and only a candidate is put a SWITCH, and the
first walk puts each take, in queue order, to the eligible typist with the smallest work estimate, then the earliest
idle-since, then the lowest number: a typist eligible for an entry is offered an entry ahead of it, or the
entry is offered to one that comes before it in that order, itself included. The second walk puts each RUSH
take left, in queue order, to the candidate whose current take has the largest latest start, then the lowest
number, in the same way (R106, R107, R108, R117, R121; log entry 2). -/
def Obligations.PassLeavesNoPlacement : Prop :=
  ∀ s : State, s.passDue = true →
    ∃ t : State, exec .placementPass s = .next t ∧ t.passDue = false ∧
      (∀ e ∈ t.queue, ∀ n, ¬t.eligibleFor n e.take) ∧
      (∀ e ∈ t.queue, e.cls = .rush → e.rushWaiting = true ∧ ∀ n j, ¬t.candidateFor n e.take j) ∧
      (∀ f, t.flagSet f = true ↔ s.flagSet f = true ∨ f = .rushWaiting ∧
        ∃ e ∈ t.queue, e.cls = .rush ∧ ∃ g ∈ s.queue, g.take = e.take ∧ g.rushWaiting = false) ∧
      (s.holdLaw →
        let estimate (i : TakeIx) (n : TypistIx) : Nat :=
          workEstimate ((s.take i).length - (s.take i).typedTo) (s.typist n).ratio
        let since (n : TypistIx) : Nat := (s.typist n).idleSince.getD 0
        let before (i : TakeIx) (n m : TypistIx) : Prop :=
          estimate i n < estimate i m ∨ estimate i n = estimate i m ∧
            (since n < since m ∨ since n = since m ∧ n ≤ m)
        let startOn (i : TakeIx) : Nat := (s.take i).latestStart.getD 0
        (∀ n p, (t.typist n).pending = some p → (s.typist n).pending = some p ∨
          (p.kind = .offer ∧ s.eligibleFor n p.take) ∨
          (p.kind = .switch ∧ ∃ j, s.candidateFor n p.take j)) ∧
        (∀ (k : Nat) (e : QueueEntry), s.queue[k]? = some e →
          ∀ m, s.eligibleFor m e.take →
            (∃ f ∈ s.queue.take k, (t.typist m).pending = some ⟨f.take, .offer⟩) ∨
            ∃ n, (t.typist n).pending = some ⟨e.take, .offer⟩ ∧ before e.take n m) ∧
        ∀ (k : Nat) (e : QueueEntry), s.queue[k]? = some e → e.cls = .rush →
          (∀ n, (t.typist n).pending ≠ some ⟨e.take, .offer⟩) →
          ∀ m i, s.candidateFor m e.take i →
            (∃ f ∈ s.queue.take k, (t.typist m).pending = some ⟨f.take, .switch⟩) ∨
            ∃ n j, s.candidateFor n e.take j ∧
              (t.typist n).pending = some ⟨e.take, .switch⟩ ∧
              (startOn i < startOn j ∨ startOn i = startOn j ∧ n ≤ m))

/-- What a pass changes, who holds what and the link being as they should (`HoldLawIsKept`, `LinkLawIsKept`).
A take is as it was, or it has gone from CLOSED to OFFERED, to the typist that holds it as pending, and its
entry has left the queue; the other entries keep their order and all but the rush-waiting indicator of a RUSH
entry. A typist and its drop are as they were, or an IDLE typist that the conditions of R107 make eligible is
OFFERED such a take, or a WORKING one that those of R117 make a candidate is SWITCHING with a RUSH take pending
and its current take kept; the offer timeout runs, idle-since is absent,
and the OFFER, or the SWITCH naming the take it would park, is handed to the drop with the take's fields as
they stand. RUSH-WAITING is raised exactly when a RUSH entry is left whose indicator was clear, and nothing
else changes; a pass not triggered changes nothing (R6, R103, R106, R107, R109, R117, R118, R121, R153; log
entry 2). -/
def Obligations.PassOffersAndNothingElse : Prop :=
  ∀ s : State,
    (s.passDue = false → exec .placementPass s = .next s) ∧
    (s.passDue = true → s.holdLaw → s.linkLaw →
      let offered (i : TakeIx) : OfferFields :=
        { handle := s.handleOf i, level := (s.take i).level, cls := (s.take i).cls.getD .ordinary
          quals := (s.take i).quals, length := (s.take i).length, typedTo := (s.take i).typedTo
          deadline := (s.take i).deadline.getD 0, latestStart := (s.take i).latestStart.getD 0
          status := (s.take i).status, timeout := s.params.offerTimeout }
      let message (n : TypistIx) (p : Pending) : Option Message :=
        if p.kind = .offer then some (.offer (offered p.take))
        else (s.typist n).current.map (fun j => .switch (offered p.take) (s.handleOf j))
      let clear (e : QueueEntry) : QueueEntry := { e with rushWaiting := false }
      ∃ t : State, exec .placementPass s = .next t ∧ t.passDue = false ∧
        (∀ i, t.take i = s.take i ∨ ((s.take i).state = .closed ∧
          ∃ n, (t.typist n).pending.map Pending.take = some i ∧
            t.take i = { s.take i with state := .offered, typist := some n })) ∧
        (∀ n, (t.typist n = s.typist n ∧ t.drop (typistDrop n) = s.drop (typistDrop n)) ∨
          ∃ p, (t.typist n).pending = some p ∧ (s.take p.take).state = .closed ∧
            t.take p.take = { s.take p.take with state := .offered, typist := some n } ∧
            t.typist n =
              { s.typist n with
                pending := some p, offerTimer := some s.params.offerTimeout, idleSince := none
                state := if p.kind = .offer then .offered else .switching
                cuesDropped :=
                  if (s.drop (typistDrop n)).state = .present ∧ (s.drop (typistDrop n)).out.length = 4 then
                    min 255 ((s.typist n).cuesDropped + 1)
                  else (s.typist n).cuesDropped } ∧
            (p.kind = .offer ∧ (s.typist n).state = .idle ∧ s.eligibleFor n p.take ∨
              p.kind = .switch ∧ (s.typist n).state = .working ∧ (∃ j, s.candidateFor n p.take j) ∧
                ∃ e ∈ s.queue, e.take = p.take ∧ e.cls = .rush) ∧
            ∃ m, message n p = some m ∧ t.drop (typistDrop n) = { s.drop (typistDrop n) with
                out := if (s.drop (typistDrop n)).state = .present then
                    outWith m (s.drop (typistDrop n)).out
                  else (s.drop (typistDrop n)).out }) ∧
        (∀ c, t.drop (consoleDrop c) = s.drop (consoleDrop c)) ∧
        t.queue.map clear =
          (s.queue.filter (fun e => decide ((t.take e.take).state = .closed))).map clear ∧
        (∀ e ∈ t.queue, e.cls ≠ .rush → e ∈ s.queue) ∧
        (∀ f, t.flagSet f = true ↔ s.flagSet f = true ∨ f = .rushWaiting ∧
          ∃ e ∈ t.queue, e.cls = .rush ∧ ∃ g ∈ s.queue, g.take = e.take ∧ g.rushWaiting = false) ∧
        { t with
          takes := s.takes, queue := s.queue, typists := s.typists, drops := s.drops, events := s.events,
          passDue := s.passDue } = s)

/-! ## The drop link -/

/-- A reply frame built by a station of the drop polled is judged good, with every field read back as it was
sent: the flag byte (00h or 01h from a console), the two-byte value and the request bytes. The frame that one
drop sends is a miss at every other (R149, R167). -/
def Obligations.ReplyFrameRoundTrip : Prop :=
  ∀ (d : DropIx) (r : Reply),
    (r.value < 65536 → r.request.length < 256 → (d.val < 24 → r.flags.toNat ≤ 1) →
      judgeReply d (replyFrame d r) = some r) ∧
    ∀ e : DropIx, e ≠ d → judgeReply e (replyFrame d r) = none

/-- POLL_ROUND starts a round when none is running, nothing is in flight and some drop is not DISABLED: it
stands at the lowest drop that is due (PRESENT, or ABSENT with a roll-call count of 0), the roll-call counts
of the drops passed are lowered by one, and with no drop due the round passes them all and ends. That the drops
before the lowest due one are passed as soon as the round starts, and that nothing happens otherwise, are the
model's choices (R148; log entries 6 and 35). -/
def Obligations.PollRound : Prop :=
  ∀ s : State,
    let u := s.settled
    let due (d : DropIx) : Prop :=
      (u.drop d).state = .present ∨ ((u.drop d).state = .absent ∧ (u.drop d).rollCall.getD 0 = 0)
    let passed (d : DropIx) : Drop :=
      if (u.drop d).state = .absent then
        { u.drop d with rollCall := (u.drop d).rollCall.map (· - 1) }
      else u.drop d
    ((u.round ≠ none ∨ u.inFlight ≠ none ∨ ∀ d, (u.drop d).state = .disabled) →
      exec .pollRound s = .next u) ∧
    (u.round = none → u.inFlight = none → (∃ d, (u.drop d).state ≠ .disabled) →
      ∃ t : State, exec .pollRound s = .next t ∧ { t with round := u.round, drops := u.drops } = u ∧
        ((∃ d : DropIx, due d ∧ (∀ e, e < d → ¬due e) ∧ t.round = some d.val ∧
            (∀ e, e < d → t.drop e = passed e) ∧ ∀ e, d ≤ e → t.drop e = u.drop e) ∨
          (∀ d, ¬due d ∧ t.drop d = passed d) ∧ t.round = none))

/-- POLL_TRANSACTION with the round standing at a due drop sends its frame: address, status block, the length
and the bytes of the head message, frame check. The message leaves the queue, a hand-off message that leaves
triggers a pass, the reply timeout in force goes with the transaction, and the round has the drop behind it.
The bytes of the status block: for a console the flags (bound, take open, DRIFT), the session id, the open
take's handle, its held length and the level in force at its present end; for a typist the flags (current
take, parked take, audit failure), the current take's handle, its status, its typed-to, the notes pending and
the parked take's handle; zeros where there is none. Without SEAL-MARK-LOST the level in force is found from the
open span; that it is so where a suppressed SEAL has opened or raised the span is the model's choice. With
SEAL-MARK-LOST set it is the take level; that this holds after a RELEVEL of the take too is the model's choice
between R52 and R140 (R52, R140, R149, R154, R155, R167; log entries 6, 30 and 34). -/
def Obligations.PollTransaction : Prop :=
  ∀ (s : State) (d : DropIx),
    let u := s.settled
    let body := match (u.drop d).out.head? with
      | none => []
      | some m => m.encode
    let one (n : Nat) : List Byte := [BitVec.ofNat 8 n]
    let two (n : Nat) : List Byte := [BitVec.ofNat 8 (n / 256), BitVec.ofNat 8 n]
    let handle (i : Option TakeIx) : List Byte := match i with
      | none => two 0
      | some k => two ((u.take k).gen.val * 512 + k.val)
    (∀ c : ConsoleIx, d = consoleDrop c →
      let bound := (u.console c).bound
      let opened := bound.bind (fun x => (u.session x).openTake)
      u.statusBlock d =
        one ((if bound = none then 0 else 1) + (if opened = none then 0 else 2) +
          (if (u.console c).drift = .drift then 4 else 0)) ++
        two (((bound.bind (fun x => (u.session x).id)).map BitVec.toNat).getD 0) ++ handle opened ++
        (match opened with
        | none => two 0 ++ one 0
        | some i =>
          let k := u.take i
          let plain : Level := match k.session with
            | none => 0
            | some x => (u.session x).level.getD 0
          let inForce : Level :=
            if k.flags.sealMarkLost = true then k.level
            else match k.openSpan with
              | none => plain
              | some l => max plain l
          two k.length ++ one inForce.val)) ∧
    (∀ n : TypistIx, d = typistDrop n →
      let r := u.typist n
      u.statusBlock d =
        one ((if r.current = none then 0 else 1) + (if r.parked = none then 0 else 2) +
          (if u.auditFailure = true then 4 else 0)) ++
        handle r.current ++
        (match r.current with
        | none => one 0 ++ two 0 ++ one 0
        | some i => one (match (u.take i).status with
            | .onTime => 0 | .atRisk => 1 | .late => 2 | .noStatus => 3) ++ two (u.take i).typedTo ++
          one (match r.context with
            | none => 0
            | some c => c.notes)) ++
        handle r.parked) ∧
    (u.inFlight = none → u.round = some d.val → (u.drop d).due = true →
    ∃ t : State, exec .pollTransaction s = .next t ∧
      t.ltx = checked ([BitVec.ofNat 8 (d.val + 1)] ++ u.statusBlock d ++
        [BitVec.ofNat 8 body.length] ++ body) ∧
      t.drop d = { u.drop d with out := (u.drop d).out.tail } ∧ (∀ e, e ≠ d → t.drop e = u.drop e) ∧
      t.inFlight = some ⟨d, u.params.replyTimeout⟩ ∧ t.round = some (d.val + 1) ∧
      (t.passDue = true ↔ (∃ m, (u.drop d).out.head? = some m ∧ m.isHandOff = true) ∨ u.passDue = true) ∧
      { t with
        ltx := u.ltx, drops := u.drops, inFlight := u.inFlight, round := u.round,
        passDue := u.passDue } = u)

/-- REPLY_MISS with a transaction in flight at a drop that the round has passed: the link error count rises
by one and holds at 65535; below the third miss the miss count of a PRESENT drop rises by one; the third
makes it ABSENT with a miss count of 0, its roll-call count loaded with the divisor less one and its queue
flushed, and raises DROP-ABSENT; a miss of an ABSENT drop reloads the roll-call count. Nothing is in flight
after it, and of the other drops those alone change that the round goes on over (R148, R150). Bytes that are
no good reply are a miss like silence, and without a transaction in flight they are discarded, as a miss is. That
the round goes on as soon as the transaction ends is the model's choice (R147, R149; log entries 6 and 35). -/
def Obligations.ReplyMiss : Prop :=
  (∀ s : State, s.settled.inFlight = none →
    exec .replyMiss s = .next s.settled ∧ ∀ frame, exec (.goodReply frame) s = .next s.settled) ∧
  (∀ (s : State) (f : InFlight) (frame : List Byte), s.settled.inFlight = some f →
    judgeReply f.drop frame = none → exec (.goodReply frame) s = exec .replyMiss s) ∧
  ∀ (s : State) (d : DropIx) (timeout : Nat),
    let u := s.settled
    let errors := min 65535 ((u.drop d).linkErrors + 1)
    u.inFlight = some ⟨d, timeout⟩ → (∀ p, u.round = some p → d.val < p) →
    ∃ t : State, exec .replyMiss s = .next t ∧ t.inFlight = none ∧ u.roundGoesOn t d ∧
      ((u.drop d).state = .present → (u.drop d).misses ≠ 2 →
        t.drop d = { u.drop d with linkErrors := errors, misses := (u.drop d).misses + 1 } ∧
        { t with drops := u.drops, inFlight := u.inFlight, round := u.round } = u) ∧
      ((u.drop d).state = .present → (u.drop d).misses = 2 →
        t.drop d =
          { u.drop d with
            linkErrors := errors, state := .absent, misses := 0, out := []
            rollCall := some (u.params.rollCallDivisor - 1) } ∧
        t.flagSet .dropAbsent = true) ∧
      ((u.drop d).state = .absent →
        t.drop d = { u.drop d with linkErrors := errors, rollCall := some (u.params.rollCallDivisor - 1) } ∧
        { t with drops := u.drops, inFlight := u.inFlight, round := u.round } = u)

/-- What the owner of the role does when its drop goes ABSENT at the third miss. A console whose session
records keeps its take OPEN and its grace timer starts, its drift window stops; of a console that is unbound or
BOUND the window stops, and no grace timer starts. A typist that is not OFF is away and its grace timer starts;
its pending take is CLOSED again with its serial and exclusion list kept, and the typist is WORKING with its
current take, or IDLE from now, which triggers a pass; an OFF typist is only away. A grace of 0 seconds expires
at once: the console's take is CLOSED with CUT-SHORT, its deadline and its place in the queue, and the typist is
OFF and away, TYPIST-LOST is raised, and its pending take is CLOSED with its serial kept, its current and its
parked take with the next serials; beside DROP-ABSENT and these two only the events of statuses that have
worsened, and of a length of 36000, are raised (R5, R8, R36, R37, R38, R39, R64, R66, R81, R83, R89, R97, R105,
R114). -/
def Obligations.AbsenceIsToldToTheOwner : Prop :=
  ∀ (s : State) (d : DropIx) (timeout : Nat),
    let u := s.settled
    u.inFlight = some ⟨d, timeout⟩ → (u.drop d).state = .present → (u.drop d).misses = 2 →
    ∃ t : State, exec .replyMiss s = .next t ∧
      (∀ (c : ConsoleIx) (x : SessionIx), d = consoleDrop c → (u.console c).bound = some x →
        (u.session x).state = .recording → 0 < u.params.consoleGrace →
        t.console c = { u.console c with window := none, grace := some u.params.consoleGrace } ∧
        t.session x = u.session x ∧ ∀ i, t.take i = u.take i) ∧
      (∀ (c : ConsoleIx) (x : SessionIx) (i : TakeIx), d = consoleDrop c →
        (u.console c).bound = some x → (u.session x).state = .recording →
        (u.session x).openTake = some i → (u.session x).console = some c → u.params.consoleGrace = 0 →
        u.cutShort t c x i ∧ t.serialCounter = (u.serialCounter + 1) % 4294967296 ∧ t.passDue = true ∧
        (∃ e ∈ t.queue, e.take = i ∧ e.serial = u.serialCounter) ∧
        ((u.take i).session = some x →
          t.take i = u.closedRecord i x (min 36000 (u.take i).length) true u.serialCounter ∧
          (t.take i).entry i ∈ t.queue ∧ u.entryPlaced t i ∧
          ∀ e, t.flagSet e = true ↔ u.flagSet e = true ∨ e = .takeCutShort ∨ e = .dropAbsent ∨
            worsened (u.take i).status (t.take i).status = some e ∨
            (e = .overlong ∧ 36000 ≤ (u.take i).length ∧ (u.take i).flags.overlong = false)) ∧
        (∀ j, j ≠ i → t.take j = u.take j) ∧ (∀ y, y ≠ x → t.session y = u.session y) ∧
        (∀ b, b ≠ c → t.console b = u.console b) ∧ t.typists = u.typists) ∧
      (∀ c : ConsoleIx, d = consoleDrop c →
        (∀ x, (u.console c).bound = some x → (u.session x).state ≠ .recording) →
        t.console c = { u.console c with window := none } ∧ t.sessions = u.sessions ∧ t.takes = u.takes) ∧
      (∀ n : TypistIx, d = typistDrop n → (u.typist n).state = .off →
        t.typist n = { u.typist n with away := true } ∧ ∀ i, t.take i = u.take i) ∧
      (∀ n : TypistIx, d = typistDrop n → (u.typist n).state ≠ .off → 0 < u.params.typistGrace →
        let gone : Typist := { u.typist n with away := true, grace := some u.params.typistGrace }
        ((u.typist n).pending = none → t.typist n = gone) ∧
        (∀ p, (u.typist n).pending = some p →
          t.typist n =
            (if (u.typist n).current = none then
              { gone with
                pending := none, offerTimer := none, state := .idle, idleSince := some u.officeTime }
            else { gone with pending := none, offerTimer := none, state := .working }) ∧
          t.take p.take = { u.take p.take with state := .closed, typist := none } ∧
          (∃ e ∈ t.queue, e.take = p.take ∧ e.serial = (u.take p.take).serial.getD 0) ∧
          t.passDue = true) ∧
        (∀ m, m ≠ n → t.typist m = u.typist m) ∧
        ∀ i, (u.typist n).pending.map Pending.take ≠ some i → t.take i = u.take i) ∧
      (∀ n : TypistIx, d = typistDrop n → (u.typist n).state ≠ .off → u.params.typistGrace = 0 →
        t.typist n =
          { u.typist n with
            state := .off, away := true, current := none, parked := none, pending := none
            offerTimer := none, context := none, idleSince := none, grace := none } ∧
        u.givesUp t (u.typist n) u.serialCounter ∧
        t.serialCounter = serialAfter u.serialCounter (u.typist n).serials ∧
        t.flagSet .typistLost = true ∧
        (∀ e, t.flagSet e = true ↔ u.flagSet e = true ∨ e = .typistLost ∨ e = .dropAbsent ∨
          ∃ i, worsened (u.take i).status (t.take i).status = some e) ∧
        (∀ m, m ≠ n → t.typist m = u.typist m) ∧
        (∀ i, (u.typist n).pending.map Pending.take ≠ some i → (u.typist n).current ≠ some i →
          (u.typist n).parked ≠ some i → t.take i = u.take i) ∧
        t.sessions = u.sessions ∧ t.consoles = u.consoles)

/-- A good reply makes its drop PRESENT with a miss count of 0, and a drop that was ABSENT loses its
roll-call count. The link error count is kept when the reply carries no request. On a return, a console's
grace timer stops; a typist is no longer away, its grace timer stops, a pass is triggered, and with a
current take a RESUME heads its queue. Of the other drops those alone change that the round goes on over.
The request that a good reply carries is taken after the presence and the status block: what it does is what
the same reply without it does, and then what the request's own command does, a pass that is due waiting for
both. A code that the drop's role does not define is answered UNKNOWN, and so are parameters that do not
fit, once the console is bound or the typist signed on; while an ANSWER waits unsent such a request is
discarded and counted as a link error. That the round goes on as soon as the transaction ends is the model's
choice (R37, R82, R106, R148, R151, R152, R167; log entries 13 and 35). -/
def Obligations.GoodReplyRestoresPresence : Prop :=
  (∀ (s : State) (d : DropIx) (timeout : Nat) (frame : List Byte) (r : Reply),
    let u := s.settled
    u.inFlight = some ⟨d, timeout⟩ → judgeReply d frame = some r → (u.drop d).state ≠ .disabled →
    (∀ p, u.round = some p → d.val < p) → r.request = [] →
    ∃ t : State, exec (.goodReply frame) s = .next t ∧ t.inFlight = none ∧
      (t.drop d).state = .present ∧ (t.drop d).misses = 0 ∧
      (t.drop d).linkErrors = (u.drop d).linkErrors ∧ u.roundGoesOn t d ∧
      ((u.drop d).state = .absent →
        (t.drop d).rollCall = none ∧
        (∀ c, d = consoleDrop c → (t.console c).grace = none) ∧
        ∀ n, d = typistDrop n → (t.typist n).away = false ∧ (t.typist n).grace = none ∧ t.passDue = true ∧
          ((u.drop d).out = [] → ∀ i c, (u.typist n).current = some i → (u.typist n).context = some c →
            (t.drop d).out.head? = some (.resume (u.handleOf i) c.position c.notes)))) ∧
  ∀ (s : State) (d : DropIx) (timeout : Nat) (bare frame : List Byte) (r : Reply) (code : Byte)
    (ps : List Byte),
    let u := s.settled
    let parsed := match dropRole d with
      | .console c => Decode.consoleRequest c code.toNat ps
      | .typist n => Decode.typistRequest n code.toNat ps
    u.inFlight = some ⟨d, timeout⟩ → (u.drop d).state ≠ .disabled → judgeReply d frame = some r →
    r.request = code :: ps → judgeReply d bare = some { r with request := [] } →
    ∃ v t : State, exec (.goodReply bare) s = .next v ∧ exec (.goodReply frame) s = .next t ∧
      (∀ i, parsed = .request i → ∃ w : State, exec i { v with passDue := false } = .next w ∧
        t = { w with passDue := v.passDue || w.passDue }) ∧
      ((parsed = .undefined ∨ parsed = .malformed) → v.answerWaits d = true →
        t.drop d = { v.drop d with linkErrors := min 65535 ((v.drop d).linkErrors + 1) } ∧
        (∀ e, e ≠ d → t.drop e = v.drop e) ∧ { t with drops := v.drops } = v) ∧
      ((parsed = .undefined ∨ parsed = .malformed ∧
          (∀ c, d = consoleDrop c → (v.console c).bound ≠ none) ∧
          ∀ n, d = typistDrop n → (v.typist n).state ≠ .off) → v.stationReady d →
        v.answeredOnly t d ⟨code.toNat, .unknown, false, false, false, []⟩ ∧
        (∀ n, d = typistDrop n →
          { t.typist n with cuesDropped := (v.typist n).cuesDropped } = (v.typist n).active u.officeTime) ∧
        (∀ n, d ≠ typistDrop n → t.typist n = v.typist n) ∧
        { t with drops := v.drops, typists := v.typists } = v)

/-- A good reply of a PRESENT console whose session records: the time code, taken as 36000 above that, becomes
the last code, and the open take's length becomes the larger of itself and the code. A length that reaches
36000 makes the take OVERLONG with its event. A code below the last one is a drift failure, and CONSOLE-DRIFT is
raised where the console was IN-STEP; no other event is raised. The window starts with a RECORDING report and
stops with a PAUSED one. That the round goes on as soon as the transaction ends is the model's choice (R35, R36,
R39, R41, R148, R151; log entry 35). -/
def Obligations.TimeCodeIsTaken : Prop :=
  ∀ (s : State) (c : ConsoleIx) (x : SessionIx) (i : TakeIx) (timeout : Nat) (frame : List Byte)
    (r : Reply),
    let u := s.settled
    let code := min 36000 r.value
    let falls : Prop := ∃ last, (u.console c).lastCode = some last ∧ code < last
    u.inFlight = some ⟨consoleDrop c, timeout⟩ → judgeReply (consoleDrop c) frame = some r →
    (u.drop (consoleDrop c)).state = .present → r.request = [] → (u.console c).bound = some x →
    (u.session x).state = .recording → (u.session x).openTake = some i →
    ∃ t : State, exec (.goodReply frame) s = .next t ∧
      (t.console c).lastCode = some code ∧
      (t.take i).length = max (u.take i).length code ∧
      (t.take i).flags.overlong =
        ((u.take i).flags.overlong || decide (36000 ≤ max (u.take i).length code)) ∧
      (∀ e, t.flagSet e = true ↔ u.flagSet e = true ∨
        e = .overlong ∧ 36000 ≤ max (u.take i).length code ∧ (u.take i).flags.overlong = false ∨
        e = .consoleDrift ∧ falls ∧ (u.console c).drift = .inStep) ∧
      (falls → (t.console c).drift = .drift ∧ (t.take i).flags.timingSuspect = true) ∧
      (¬falls → (t.console c).drift = (u.console c).drift ∧
        (t.take i).flags.timingSuspect = (u.take i).flags.timingSuspect) ∧
      ((t.console c).window =
        if r.flags = 0 then none
        else if (u.console c).window = none ∨ falls then some ⟨u.officeTime, code⟩
        else (u.console c).window) ∧
      { t.console c with
        lastCode := (u.console c).lastCode, drift := (u.console c).drift, window := (u.console c).window } =
        u.console c ∧
      { t.take i with length := (u.take i).length, flags := (u.take i).flags } = u.take i ∧
      (∀ j, j ≠ i → t.take j = u.take j) ∧ (∀ b, b ≠ c → t.console b = u.console b) ∧
      u.roundGoesOn t (consoleDrop c) ∧
      { t with
        takes := u.takes, consoles := u.consoles, events := u.events, drops := u.drops,
        inFlight := u.inFlight, round := u.round } = u

/-- A good reply of a PRESENT typist that is WORKING or SWITCHING: the position, clamped to 36000 and to the
current take's length, becomes the context's. A forward move passes every mark from the cursor up to the
position and hands each on as a CUE, in list order; those that find the drop's queue full are dropped and
counted in the cues-dropped count. A backward move sets the cursor to the first mark at or above the position;
an equal position leaves the cursor; neither hands on a CUE. The pedal, the activity indication or a changed
position is activity. That the round goes on as soon as the transaction ends is the model's choice (R69, R70, R71,
R72, R148, R153; log entries 19 and 35). -/
def Obligations.PositionIsTaken : Prop :=
  ∀ (s : State) (n : TypistIx) (i : TakeIx) (c : Context) (timeout : Nat) (frame : List Byte) (r : Reply),
    let u := s.settled
    let d := typistDrop n
    let pos := min (u.take i).length (min 36000 r.value)
    let marks := (u.take i).marks
    let passed := if c.position < pos then
        (marks.drop c.cursor).takeWhile (fun m => decide (m.offset ≤ pos))
      else []
    let room := 4 - (u.drop d).out.length
    u.inFlight = some ⟨d, timeout⟩ → judgeReply d frame = some r → (u.drop d).state = .present →
    r.request = [] → ((u.typist n).state = .working ∨ (u.typist n).state = .switching) →
    (u.typist n).current = some i → (u.typist n).context = some c →
    ∃ (t : State) (c' : Context), exec (.goodReply frame) s = .next t ∧
      (t.typist n).context = some c' ∧ c'.position = pos ∧
      (c.position < pos → c'.cursor = c.cursor + passed.length) ∧
      (pos < c.position → c'.cursor = (marks.takeWhile (fun m => decide (m.offset < pos))).length) ∧
      (pos = c.position → c'.cursor = c.cursor) ∧
      c'.lastActivity = (if r.flags.getLsbD 0 = true ∨ r.flags.getLsbD 1 = true ∨ pos ≠ c.position then
        u.officeTime else c.lastActivity) ∧
      c'.work = c.work ∧ c'.base = c.base ∧ c'.notes = c.notes ∧
      (t.drop d).out = (u.drop d).out ++
        ((passed.zipIdx c.cursor).map (fun x => Message.cue ⟨u.handleOf i, x.2, x.1⟩)).take room ∧
      t.typist n =
        { u.typist n with
          context := some c'
          cuesDropped := if passed.length ≤ room then (u.typist n).cuesDropped
            else min 255 ((u.typist n).cuesDropped + (passed.length - room)) } ∧
      (∀ m, m ≠ n → t.typist m = u.typist m) ∧ u.roundGoesOn t d ∧
      { t with
        typists := u.typists, drops := u.drops, inFlight := u.inFlight, round := u.round } = u

/-- ENABLE-DROP and DISABLE-DROP answer UNKNOWN outside 1..72. ENABLE-DROP makes a DISABLED drop PRESENT
with a miss count of 0 and no roll-call count, its link error count kept, and a round runs when nothing was
in flight; of a drop that is PRESENT or ABSENT it answers the state and changes nothing. DISABLE-DROP
changes nothing of a DISABLED drop; any other loses its queue and is DISABLED with a miss count of 0 and no
roll-call count, its link error count kept. A console is IN-STEP, its window and grace timer stopped and its
binding kept, and a RECORDING session's take is CLOSED with CUT-SHORT at its held length, with a new serial
and its place in the queue; its console's last code is absent, and the session is BOUND with its end
advanced and an open span's level as its seal carry; no other take, session or console changes. A typist is
OFF and not away, with every take it held CLOSED, the pending one with its serial kept, the current and the
parked one with the next serials, and the flags raised are those of the statuses that have worsened. Neither
DROP-ABSENT nor TYPIST-LOST is raised. A transaction in flight with the drop comes to nothing, and with no
drop left no round runs. Where the round stands between two transactions is the model's choice (R5, R38, R54, R66,
R84, R97, R105, R146, R147, R148; log entries 6 and 35). -/
def Obligations.EnableAndDisableDrop : Prop :=
  ∀ (s : State) (n : Byte),
    let u := s.settled
    (s.hostReady (.enableDrop n) →
      ((n.toNat < 1 ∨ 72 < n.toNat) →
        exec (.enableDrop n) s = .next (u.respond ⟨0x04, .unknown, false, false, false, []⟩)) ∧
      ∀ d : DropIx, n.toNat = d.val + 1 →
        ((u.drop d).state ≠ .disabled → exec (.enableDrop n) s =
          .next (u.respond ⟨0x04, .ok, false, false, false, [.small (u.drop d).state.code]⟩)) ∧
        ((u.drop d).state = .disabled → ∃ t : State, exec (.enableDrop n) s = .next t ∧
          t.drop d = { u.drop d with state := .present, misses := 0, rollCall := none } ∧
          (∀ e, (t.drop e).state = if e = d then .present else (u.drop e).state) ∧
          (u.round ≠ none → t.round = u.round ∧ ∀ e, e ≠ d → t.drop e = u.drop e) ∧
          (u.round = none → u.inFlight = none → ∃ p, t.round = some p ∧ p ≤ d.val) ∧
          { t with drops := u.drops, round := u.round, slot := u.slot } = u ∧
          t.slot = .responseWaiting ⟨0x04, .ok, false, false, false, [.small 1]⟩)) ∧
    (s.hostReady (.disableDrop n) →
      ((n.toNat < 1 ∨ 72 < n.toNat) →
        exec (.disableDrop n) s = .next (u.respond ⟨0x05, .unknown, false, false, false, []⟩)) ∧
      ∀ d : DropIx, n.toNat = d.val + 1 →
        ((u.drop d).state = .disabled → exec (.disableDrop n) s =
          .next (u.respond ⟨0x05, .ok, false, false, false, []⟩)) ∧
        ((u.drop d).state ≠ .disabled → ∃ t : State, exec (.disableDrop n) s = .next t ∧
          t.slot = .responseWaiting ⟨0x05, .ok, false, false, false, []⟩ ∧
          t.drop d = { u.drop d with out := [], state := .disabled, misses := 0, rollCall := none } ∧
          (∀ e, (t.drop e).state = if e = d then .disabled else (u.drop e).state) ∧
          (∀ f, t.inFlight = some f → f.drop ≠ d ∧ u.inFlight = some f) ∧
          ((∀ e, e ≠ d → (u.drop e).state = .disabled) → t.round = none) ∧
          t.flagSet .dropAbsent = u.flagSet .dropAbsent ∧
          t.flagSet .typistLost = u.flagSet .typistLost ∧
          (∀ c, d = consoleDrop c →
            (t.console c).drift = .inStep ∧ (t.console c).window = none ∧
            (t.console c).grace = none ∧ (t.console c).bound = (u.console c).bound ∧
            (∀ m, t.typist m = u.typist m) ∧
            ((∀ x, (u.console c).bound = some x → (u.session x).state ≠ .recording) →
              t.console c = { u.console c with drift := .inStep, window := none, grace := none } ∧
              (∀ b, b ≠ c → t.console b = u.console b) ∧ t.sessions = u.sessions ∧
              t.takes = u.takes ∧ t.queue = u.queue ∧ t.events = u.events) ∧
            ∀ x i, (u.console c).bound = some x → (u.session x).state = .recording →
              (u.session x).openTake = some i →
              (t.take i).state = .closed ∧ (t.take i).flags.cutShort = true ∧
              (t.session x).state = .bound ∧ t.flagSet .takeCutShort = true ∧
              ((u.take i).session = some x → u.closes t i x (min 36000 (u.take i).length) true) ∧
              t.session x =
                { u.session x with
                  state := .bound, openTake := none
                  sealCarry := (u.take i).openSpan.or (u.session x).sealCarry
                  sessionEnd := (u.session x).sessionEnd.map (· + min 36000 (u.take i).length) } ∧
              (∀ y, y ≠ x → t.session y = u.session y) ∧
              ((u.session x).console = some c →
                t.console c = { Console.reset with bound := some x } ∧
                ∀ b, b ≠ c → t.console b = u.console b)) ∧
          ∀ m, d = typistDrop m →
            (t.typist m).state = .off ∧ (t.typist m).away = false ∧
            (∀ k, k ≠ m → t.typist k = u.typist k) ∧ t.consoles = u.consoles ∧
            t.sessions = u.sessions ∧ u.raisesWorsened t ∧
            ((u.typist m).state ≠ .off → (t.typist m).current = none ∧ (t.typist m).parked = none ∧
              (t.typist m).pending = none ∧ (t.typist m).grace = none ∧
              u.givesUp t (u.typist m) u.serialCounter ∧
              t.serialCounter = serialAfter u.serialCounter (u.typist m).serials ∧
              ∀ i, ((u.typist m).current = some i ∨ (u.typist m).parked = some i ∨
                (u.typist m).pending.map Pending.take = some i) → (t.take i).state = .closed)))

/-! ## Host requests that read -/

/-- The requests that read a record answer OK and change nothing but the response slot: READ-TAKE and
READ-MARKS of a current handle, READ-SESSION of a held id, READ-TYPIST and READ-DROP of a number in range.
Each answer holds the fields that its rule lists, in that order, those of a mark among them, an optional one
with its presence byte and a list with its count; a field that the record always holds while the rule lists it is sent plain (log entries 15
and 23). An id that no session holds is answered NO-SESSION, and a typist or drop number outside its range
UNKNOWN. SCAN-TAKES answers the first slot from the start index on whose state
and status are in the sets, or "no match"; it does not wrap (R19, R20, R29, R60, R86, R156, R166). -/
def Obligations.ReadRequests : Prop :=
  ∀ s : State,
    let u := s.settled
    let code (x : Option SessionIx) : Nat :=
      ((x.bind (fun y => (u.session y).id)).map BitVec.toNat).getD 0
    let handle (i : TakeIx) : List Field := [.handle (u.handleOf i)]
    let half (n : Nat) : List Field := [.half n]
    let quad (n : Nat) : List Field := [.quad n]
    (∀ h i, s.hostReady (.readTake h) → u.resolve h = some i →
      let k := u.take i
      let fields : List (List Field) := [
        [.handle (u.handleOf i), .small k.state.code, .half (code k.session), .small (k.sequence.getD 0),
          .quad (k.sessionStart.getD 0), .small ((k.console.map (fun c => c.val + 1)).getD 0),
          .half k.length, .half k.typedTo, .small k.level.val, .small (k.cls.getD .ordinary).rank,
          .flag k.rushPending, .small k.quals.code],
        optional k.deadline quad, optional k.latestStart quad, [.small k.status.code],
        optional k.serial quad, optional k.typist (fun t => [.small (t.val + 1)]),
        [.small k.exclusion.length], k.exclusion.map (fun t => .small (t.val + 1)),
        [.small k.marks.length], optional k.openSpan (fun l => [.small l.val]),
        [.small k.openQueries, .small k.marksLost, .small k.flags.code],
        optional k.package (fun p =>
          [.half p.position, .small p.cursor, .half p.work, .half p.base, .small p.notes])]
      exec (.readTake h) s =
        .next (u.respond ⟨0x0E, .ok, false, false, false, fields.flatten⟩)) ∧
    (∀ id x, s.hostReady (.readSession id) → u.findSession id = some x →
      let r := u.session x
      let fields : List (List Field) := [
        [.small x.val, .half id.toNat, .small ((r.console.map (fun c => c.val + 1)).getD 0),
          .small r.state.code, .small (r.level.getD 0).val, .small (r.cls.getD .ordinary).rank,
          .quad (r.allowance.getD 0), .small r.quals.code],
        [.small r.takes.length], r.takes.map (fun i => .handle (u.handleOf i)),
        optional r.openTake (fun i => [.handle (u.handleOf i), .half (u.take i).length]),
        optional r.sealCarry (fun l => [.small l.val]), optional r.nextSequence (fun n => [.small n]),
        [.quad (r.sessionEnd.getD 0)]]
      exec (.readSession id) s =
        .next (u.respond ⟨0x0D, .ok, false, false, false, fields.flatten⟩)) ∧
    (∀ id, s.hostReady (.readSession id) → u.findSession id = none →
      exec (.readSession id) s = .next (u.respond ⟨0x0D, .noSession, false, false, false, []⟩)) ∧
    (∀ n : Byte, s.hostReady (.readTypist n) → (n.toNat < 1 ∨ 48 < n.toNat) →
      exec (.readTypist n) s = .next (u.respond ⟨0x08, .unknown, false, false, false, []⟩)) ∧
    (∀ n : Byte, s.hostReady (.readDrop n) → (n.toNat < 1 ∨ 72 < n.toNat) →
      exec (.readDrop n) s = .next (u.respond ⟨0x06, .unknown, false, false, false, []⟩)) ∧
    (∀ (n : Byte) (t : TypistIx), s.hostReady (.readTypist n) → n.toNat = t.val + 1 →
      let r := u.typist t
      let fields : List (List Field) := [
        [.small n.toNat, .small r.state.code, .small r.clearance.val, .small r.quals.code,
          .small r.ratio],
        optional r.current handle, optional r.parked handle,
        optional r.pending (fun p =>
          [.handle (u.handleOf p.take), .small (if p.kind = .offer then 0 else 1)]),
        optional r.offerTimer half, [.flag r.away], optional r.grace half, optional r.idleSince quad,
        optional r.context (fun c =>
          [.half c.position, .small c.cursor, .half c.work, .half c.base, .quad c.lastActivity,
            .small c.notes]),
        [.small r.cuesDropped, .small r.offersMissed]]
      exec (.readTypist n) s =
        .next (u.respond ⟨0x08, .ok, false, false, false, fields.flatten⟩)) ∧
    (∀ (n : Byte) (d : DropIx), s.hostReady (.readDrop n) → n.toNat = d.val + 1 →
      let r := u.drop d
      let kind (m : Message) : Nat := match m with
        | .answer _ => 1
        | .offer _ => 2
        | .switch _ _ => 3
        | .withdraw _ => 4
        | .resume _ _ _ => 5
        | .cue _ => 6
      let fields : List (List Field) := [
        [.small (if d.val < 24 then 0 else 1), .small r.state.code, .small r.misses],
        optional r.rollCall (fun n => [.small n]), [.small r.out.length],
        r.out.map (fun m => .small (kind m)), [.half r.linkErrors, .small (u.clearance d).val]]
      let ofConsole (c : ConsoleIx) : List (List Field) := [
        optional (u.console c).bound (fun x => [.small x.val, .half (code (some x))]),
        [.small (if (u.console c).drift = .drift then 1 else 0)],
        optional (u.console c).window (fun w => [.quad w.startSecond, .half w.startCode]),
        optional (u.console c).lastCode half, optional (u.console c).grace half]
      (∀ m, d = typistDrop m → exec (.readDrop n) s =
        .next (u.respond ⟨0x06, .ok, false, false, false, fields.flatten⟩)) ∧
      ∀ c, d = consoleDrop c → exec (.readDrop n) s =
        .next (u.respond ⟨0x06, .ok, false, false, false, (fields ++ ofConsole c).flatten⟩)) ∧
    (∀ (h : Half) (p : Byte) (i : TakeIx), s.hostReady (.readMarks h p) → u.resolve h = some i →
      let marks := (u.take i).marks
      let first := min marks.length p.toNat
      let fields : List (List Field) := [
        listedFrom first ((marks.drop first).take 8),
        [.small (marks.length - first - min 8 (marks.length - first)), .small marks.length,
          .small (u.take i).openQueries, .small (u.take i).marksLost,
          .flag (u.take i).flags.sealMarkLost, .small (u.take i).level.val],
        optional (u.take i).openSpan (fun l => [.small l.val]),
        [.half (4096 - (u.takes.toList.map (fun k => k.marks.length)).sum)]]
      exec (.readMarks h p) s = .next (u.respond
        ⟨0x18, .ok, decide (marks.length < p.toNat), false, false, fields.flatten⟩)) ∧
    ∀ (start : Half) (states statuses : Byte), s.hostReady (.scanTakes start states statuses) →
      let fits (i : TakeIx) : Prop := start.toNat ≤ i.val ∧
        states.getLsbD (u.take i).state.code = true ∧ statuses.getLsbD (u.take i).status.code = true
      (∀ i, fits i → (∀ j, j < i → ¬fits j) →
        exec (.scanTakes start states statuses) s = .next (u.respond ⟨0x0F, .ok, false, false, false,
          [.half i.val, .small (u.take i).gen.val, .small (u.take i).state.code,
            .small (u.take i).status.code]⟩)) ∧
      ((∀ i, ¬fits i) → exec (.scanTakes start states statuses) s =
        .next (u.respond ⟨0x0F, .ok, false, true, false, []⟩))

/-- A host request that names a take by a stale handle is answered STALE and changes nothing. A handle is
current exactly when the slot of its index holds a take, which a FREE slot does not, and its generation is the
slot's. A CERTIFIED take is guarded: the requests that would change it are answered
GUARDED, and CERTIFY is answered OK without change (R2, R17, R18). -/
def Obligations.HandleChecksOfTheHost : Prop :=
  ∀ (s : State) (h v : Half) (b : Byte) (q : Quad) (i : Instr), s.hostReady i →
    let u := s.settled
    (∀ k : TakeIx, u.resolve h = some k ↔ h.toNat % 512 = k.val ∧ (u.take k).state ≠ .free ∧
      h.toNat / 512 = (u.take k).gen.val) ∧
    (∀ k : TakeIx, (u.take k).state = .free → h.toNat % 512 = k.val → u.resolve h = none) ∧
    (u.resolve h = none →
      i ∈ [.readTake h, .setDeadline h q, .setClass h b, .relevel h b, .withdrawTake h,
        .requeueTake h v, .certifyTake h, .retireTake h, .readMarks h b] →
      exec i s = .next (u.respond ⟨requestCode i, .stale, false, false, false, []⟩)) ∧
    ∀ k, u.resolve h = some k → (u.take k).state = .certified →
      (i ∈ [.setDeadline h q, .setClass h b, .relevel h b, .withdrawTake h, .requeueTake h v] →
        exec i s = .next (u.respond ⟨requestCode i, .guarded, false, false, false, []⟩)) ∧
      (i = .certifyTake h → exec i s = .next (u.respond ⟨0x15, .ok, false, false, false, []⟩))

/-! ## Clearance -/

/-- SET-CONSOLE: UNKNOWN outside 1..24; GUARDED without change when it would raise the clearance while the
lock is set, with CLAMPED for a clearance above 3; otherwise the clearance, taken as 3 above that, is the
console's, and nothing else changes. LOCK-CLEARANCE sets the lock and is answered OK, a lock already set
included (R138, R141). -/
def Obligations.SetConsoleAndLockClearance : Prop :=
  (∀ s : State, s.hostReady .lockClearance →
    exec .lockClearance s = .next (({ s.settled with clearanceLock := true } : State).respond
      ⟨0x0A, .ok, false, false, false, []⟩)) ∧
  ∀ (s : State) (n b : Byte), s.hostReady (.setConsole n b) →
    let u := s.settled
    let l := levelOf b
    ((n.toNat < 1 ∨ 24 < n.toNat) →
      exec (.setConsole n b) s = .next (u.respond ⟨0x09, .unknown, false, false, false, []⟩)) ∧
    ∀ c : ConsoleIx, n.toNat = c.val + 1 →
      let d := consoleDrop c
      (u.clearanceLock = true → u.clearance d < l → exec (.setConsole n b) s =
        .next (u.respond ⟨0x09, .guarded, decide (3 < b.toNat), false, false, []⟩)) ∧
      ((u.clearanceLock = false ∨ l ≤ u.clearance d) →
        ∃ t : State, exec (.setConsole n b) s = .next t ∧
          (∀ e, t.clearance e = if e = d then l else u.clearance e) ∧
          t.slot = .responseWaiting
            ⟨0x09, .ok, decide (3 < b.toNat), false, false, [.small (min 3 b.toNat)]⟩ ∧
          { t with clearances := u.clearances, slot := u.slot } = u)

/-- While the clearance lock is set, no drop's clearance rises, and only reset clears the lock: of every
command in every state (R141). -/
def Obligations.NoClearanceRisesUnderTheLock : Prop :=
  ∀ s t : State, s.clearanceLock = true → step s = .next t →
    (∀ c cs, s.pending = c :: cs → c.isReset = false) →
    t.clearanceLock = true ∧ ∀ d, t.clearance d ≤ s.clearance d

/-- SET-TYPIST: UNKNOWN outside 1..48; the whole request GUARDED when it would raise the clearance while the
lock is set, with CLAMPED for a clearance above 3; otherwise the parts given are applied, the clearance
brought to 0..3 and the ratio to 16..255 with CLAMPED, the answer is what they leave, and no pending,
current or parked take of the typist is left above its clearance or beyond its qualifications, if none was
before. A held take that is still covered stays with the typist; with a ratio part the current and the
parked take have a latest start by the new ratio and the status that follows. A pending take that is not
covered any more is CLOSED with its serial kept, then a parked one and then a current one with new serials;
each stands in the queue, and the typist, its drop's queue and the pass follow. Of the state before, the
hold law, the context law, the cover law and the typist's law (`HoldLawIsKept`, `RecordLawsAreKept`) are
assumed for this (R9, R10, R11, R66, R79, R80, R85, R97, R102, R106, R114, R115, R116, R134, R136, R139,
R141; log entries 17 and 20). -/
def Obligations.SetTypist : Prop :=
  ∀ (s : State) (n : Byte) (clearance quals ratio : Option Byte),
    s.hostReady (.setTypist n clearance quals ratio) →
    let u := s.settled
    let i := Instr.setTypist n clearance quals ratio
    ((n.toNat < 1 ∨ 48 < n.toNat) →
      exec i s = .next (u.respond ⟨0x07, .unknown, false, false, false, []⟩)) ∧
    ∀ t : TypistIx, n.toNat = t.val + 1 →
      let d := typistDrop t
      let l := (clearance.map levelOf).getD (u.clearance d)
      let q := (quals.map Quals.ofByte).getD (u.typist t).quals
      let r := (ratio.map (fun b => max 16 (min 255 b.toNat))).getD (u.typist t).ratio
      let above : Bool := (clearance.map (fun b => decide (3 < b.toNat))).getD false
      let outside : Bool := (ratio.map (fun b => decide (b.toNat < 16))).getD false
      let holds (v : State) (k : TakeIx) : Prop := (v.typist t).current = some k ∨
        (v.typist t).parked = some k ∨ (v.typist t).pending.map Pending.take = some k
      (u.clearanceLock = true → u.clearance d < l →
        exec i s = .next (u.respond ⟨0x07, .guarded, above, false, false, []⟩)) ∧
      ((u.clearanceLock = false ∨ l ≤ u.clearance d) →
        ∃ v : State, exec i s = .next v ∧ v.clearance d = l ∧ (v.typist t).clearance = l ∧
          (v.typist t).quals = q ∧ (v.typist t).ratio = r ∧
          v.slot = .responseWaiting ⟨0x07, .ok, above || outside, false, false,
            [.small l.val, .small q.code, .small r]⟩ ∧
          ((u.typist t).clearance = u.clearance d →
            (∀ k, holds u k → (u.typist t).coversTake (u.take k) = true) →
            ∀ k, holds v k → (v.typist t).coversTake (v.take k) = true) ∧
          ((u.clearance d < l ∨ (u.typist t).quals.covers q = false) → v.passDue = true) ∧
          (∀ e, e ≠ d → v.clearance e = u.clearance e) ∧
          (∀ m, m ≠ t → v.typist m = u.typist m) ∧
          (u.holdLaw → u.contextLaw → u.coverLaw → (u.typist t).clearance = u.clearance d →
            let own := { u.typist t with clearance := l, quals := q, ratio := r }
            let covered (k : TakeIx) : Bool := own.coversTake (u.take k)
            let left := u.relieved own covered
            let kept (k : TakeIx) : Take :=
              if ratio = none then u.take k else u.restarted (u.take k) r
            let first : Nat := if own.parked.all covered = true then 0 else 1
            let given : Nat := first + if own.current.all covered = true then 0 else 1
            { v.typist t with cuesDropped := own.cuesDropped } = left ∧
            (∀ p, own.pending = some p → covered p.take = true → v.take p.take = u.take p.take) ∧
            (∀ p, own.pending = some p → covered p.take = false →
              v.take p.take = { u.take p.take with state := .closed, typist := none } ∧
              ∃ e ∈ v.queue, e.take = p.take ∧ e.serial = (u.take p.take).serial.getD 0) ∧
            (∀ k, own.current = some k → covered k = true → v.take k = kept k) ∧
            (∀ k, own.parked = some k → covered k = true → v.take k =
              if left.current = some k then
                { u.restarted (u.take k) r with state := .typing, package := none }
              else kept k) ∧
            (∀ k, own.parked = some k → covered k = false →
              v.take k = u.givenBack k u.serialCounter ∧
              ∃ e ∈ v.queue, e.take = k ∧ e.serial = u.serialCounter) ∧
            (∀ k, own.current = some k → covered k = false →
              v.take k = u.givenBack k (serialAfter u.serialCounter first) ∧
              ∃ e ∈ v.queue, e.take = k ∧ e.serial = serialAfter u.serialCounter first) ∧
            (∀ k, ¬holds u k → v.take k = u.take k) ∧
            v.serialCounter = serialAfter u.serialCounter given ∧
            (v.passDue = true ↔ u.passDue = true ∨ u.clearance d < l ∨
              (u.typist t).quals.covers q = false ∨ ∃ k, holds u k ∧ covered k = false) ∧
            ((u.drop d).state = .present →
              v.drop d = { u.drop d with out := u.relievedOut own covered (u.drop d).out }) ∧
            (∀ e, e ≠ d → v.drop e = u.drop e) ∧
            (ratio = none ∨ (∀ k, holds u k → covered k = true) → u.raisesWorsened v) ∧
            ((∀ k, holds u k → covered k = true) → v.queue = u.queue) ∧
            { v with
              takes := u.takes, typists := u.typists, drops := u.drops, slot := u.slot
              clearances := u.clearances, events := u.events, queue := u.queue
              serialCounter := u.serialCounter, passDue := u.passDue } = u))

/-- RELEVEL raises a take's level to the larger of its own and the one given, taken as 3 above that, and is
answered the level and the state it leaves, CLAMPED where the level given was above 3 or below the take's. A
take in OFFERED, TYPING or PARKED is taken from its typist where its level is then above the typist's recorded
clearance, and one in OFFERED also where it is raised while an audit failure stands; every other take stays
where it is, and nothing but its level changes. A take that is taken away is CLOSED with its typed-to
kept and stands in the queue, which triggers a pass: an OFFERED one with its serial and exclusion list kept, a
TYPING or PARKED one with the serial counter's value and a latest start by the office ratio. Its typist goes on
and its drop is handed the WITHDRAW and the RESUME as after a host WITHDRAW; no other typist, drop or take
changes but a parked take that is resumed. The session levels, the open seal spans and the marks stay as they
are, and so does what a console is shown, but for a take with SEAL-MARK-LOST: that the console of such a take is
shown its level, which the RELEVEL has raised, is the model's choice between R52 and R140. That the typist a take
names holds it is the hold law (`HoldLawIsKept`) (R8, R11, R52, R72, R79, R80, R97, R105, R106, R114, R115, R116,
R122, R136, R140, R143, R155; log entries 17 and 30). -/
def Obligations.Relevel : Prop :=
  ∀ (s : State) (h : Half) (b : Byte) (k : TakeIx), s.hostReady (.relevel h b) →
    let u := s.settled
    let level := max (u.take k).level (levelOf b)
    let raised : Take := { u.take k with level := level }
    let taken (n : TypistIx) : Prop := (u.take k).typist = some n ∧
      (u.take k).state ∈ [.offered, .typing, .parked] ∧
      ((u.typist n).clearance < level ∨
        u.auditFailure = true ∧ (u.take k).state = .offered ∧ (u.take k).level < levelOf b)
    u.resolve h = some k → (u.take k).state ≠ .certified →
    ∃ t : State, exec (.relevel h b) s = .next t ∧ (t.take k).level = level ∧
      t.slot = .responseWaiting ⟨0x12, .ok,
        decide (3 < b.toNat) || decide (levelOf b < (u.take k).level), false, false,
        [.small level.val, .small (t.take k).state.code]⟩ ∧
      t.sessions = u.sessions ∧
      (∀ j, (t.take j).openSpan = (u.take j).openSpan ∧ (t.take j).marks = (u.take j).marks) ∧
      ((∀ n, ¬taken n) → t.take k = raised ∧ (∀ j, j ≠ k → t.take j = u.take j) ∧
        { t with takes := u.takes, slot := u.slot } = u) ∧
      ((u.take k).flags.sealMarkLost = false →
        ∀ c, t.statusBlock (consoleDrop c) = u.statusBlock (consoleDrop c)) ∧
      ((u.take k).flags.sealMarkLost = true → ∀ c x, (u.console c).bound = some x →
        (u.session x).openTake = some k →
        (t.statusBlock (consoleDrop c))[7]? = some (BitVec.ofNat 8 level.val)) ∧
      ∀ n, taken n →
        let r := u.typist n
        let d := typistDrop n
        (∀ m, m ≠ n → t.typist m = u.typist m) ∧ (∀ e, e ≠ d → t.drop e = u.drop e) ∧
        { t with
          takes := u.takes, typists := u.typists, drops := u.drops, slot := u.slot,
          events := u.events, queue := u.queue, serialCounter := u.serialCounter,
          passDue := u.passDue } = u ∧
        ((u.take k).state = .offered → r.pending.map Pending.take = some k →
          t.take k = { raised with state := .closed, typist := none } ∧
          { t.typist n with cuesDropped := r.cuesDropped } =
            (if r.current = none then
              { r with
                pending := none, offerTimer := none, state := .idle, idleSince := some u.officeTime }
            else { r with pending := none, offerTimer := none, state := .working }) ∧
          (t.take k).entry k ∈ t.queue ∧ u.entryPlaced t k ∧ t.passDue = true ∧
          t.drop d = { u.drop d with
            out := if (u.drop d).state = .present then
                outWithdrawing false (u.handleOf k) (u.drop d).out
              else (u.drop d).out.filter (fun m => !m.offers (u.handleOf k)) } ∧
          t.events = u.events ∧ t.serialCounter = u.serialCounter ∧ ∀ j, j ≠ k → t.take j = u.take j) ∧
        ((u.take k).state = .parked ∧ r.parked = some k ∨
          (u.take k).state = .typing ∧ r.current = some k ∧ r.parked ≠ some k →
          t.take k = { u.givenBack k u.serialCounter with level := level } ∧ u.raisesWorsened t ∧
          t.serialCounter = (u.serialCounter + 1) % 4294967296 ∧
          (t.take k).entry k ∈ t.queue ∧ u.entryPlaced t k ∧ t.passDue = true) ∧
        ((u.take k).state = .parked → r.parked = some k →
          t.typist n = { r with parked := none } ∧ t.drop d = u.drop d ∧
          ∀ j, j ≠ k → t.take j = u.take j) ∧
        ((u.take k).state = .typing → r.current = some k → r.parked ≠ some k →
          u.nextAfterCurrent t n ∧ (t.typist n).ratio = r.ratio ∧
          ((u.drop d).state ≠ .present → t.drop d =
            { u.drop d with out := outLeaving (u.handleOf k) (u.drop d).out }) ∧
          ((u.drop d).state = .present →
            let told := outWithdrawing true (u.handleOf k) (outLeaving (u.handleOf k) (u.drop d).out)
            (r.state = .switching ∨ r.parked = none → t.drop d = { u.drop d with out := told }) ∧
            ∀ p x, r.state ≠ .switching → r.parked = some p → (u.take p).package = some x →
              t.drop d = { u.drop d with out := outResuming (x.resume (u.handleOf p)) told }) ∧
          ∀ j, j ≠ k → r.parked ≠ some j → t.take j = u.take j)

/-- PROBE, of every asker: a stale handle gives 0; a current one exists; it is heard when its level is not
above the asker's effective clearance, which an audit failure makes 0 for a station, or when it is the
typist's own current take; it may be changed when it is heard and not CERTIFIED, by the host, by the typist
that types it, and by a console bound to its session before it is RETURNED. Nothing else changes but the
typist's activity (R69, R134, R135, R137). -/
def Obligations.ProbeTake : Prop :=
  ∀ (s : State) (a : Asker) (h : Half) (q : Option Byte),
    let u := s.settled
    let i := Instr.probeTake a h q
    let level : Level := (q.map levelOf).getD 3
    let clamped := (q.map (fun b => decide (3 < b.toNat))).getD false
    let heard : Level := match a with
      | .host => level
      | .console c => if u.auditFailure then 0 else min (u.clearance (consoleDrop c)) level
      | .typist n => if u.auditFailure then 0 else min (u.clearance (typistDrop n)) level
    let own (k : TakeIx) : Bool := match a with
      | .typist n => (u.typist n).current = some k
      | _ => false
    let mayChange (k : TakeIx) : Bool := match a with
      | .host => (u.take k).state ≠ .certified
      | .typist _ => own k && (u.take k).state = .typing
      | .console c => (u.console c).bound.isSome && (u.console c).bound = (u.take k).session &&
          (u.take k).state ∈ [.opened, .closed, .offered, .typing, .parked]
    s.askerReady a i → ∃ (t : State) (n : Nat), exec i s = .next t ∧
      u.tells t a ⟨requestCode i, .ok, clamped, false, false, [.small n]⟩ ∧
      (u.resolve h = none → n = 0) ∧
      (∀ k, u.resolve h = some k → n =
        if own k = true ∨ (u.take k).level ≤ heard then (if mayChange k then 7 else 3) else 1) ∧
      (∀ m, a = .typist m →
        { t.typist m with cuesDropped := (u.typist m).cuesDropped } = (u.typist m).active u.officeTime) ∧
      (∀ m, a ≠ .typist m → t.typist m = u.typist m) ∧
      { t with slot := u.slot, drops := u.drops, typists := u.typists } = u

/-! ## Sessions -/

/-- OPEN-SESSION: UNKNOWN for a console outside 1..24; WRONG-STATE for an id that a session holds or a console
that is bound; FULL without a FREE record; otherwise the lowest FREE record is BOUND with the values given,
brought into range, the console is bound to it with its fields as after reset, and the record's index is
answered (R27). -/
def Obligations.OpenSession : Prop :=
  ∀ (s : State) (id : Half) (n level cls : Byte) (allowance : Quad) (quals : Byte),
    let u := s.settled
    let i := Instr.openSession id n level cls allowance quals
    let refused (st : AnswerStatus) : Host.Outcome State Fault Refusal :=
      .next (u.respond ⟨0x0B, st, false, false, false, []⟩)
    s.hostReady i →
    ((n.toNat < 1 ∨ 24 < n.toNat) → exec i s = refused .unknown) ∧
    ∀ c : ConsoleIx, n.toNat = c.val + 1 →
      ((u.findSession id ≠ none ∨ (u.console c).bound ≠ none) → exec i s = refused .wrongState) ∧
      (u.findSession id = none → (u.console c).bound = none →
        ((∀ x, (u.session x).state ≠ .free) → exec i s = refused .full) ∧
        ∀ x, (u.session x).state = .free → (∀ y, y < x → (u.session y).state ≠ .free) →
          ∃ t : State, exec i s = .next t ∧
            t.session x =
              { id := some id, console := some c, state := .bound, level := some (levelOf level)
                cls := some (TakeClass.ofByte cls), allowance := some (min 604800 allowance.toNat)
                quals := Quals.ofByte quals, takes := [], openTake := none, sealCarry := none
                nextSequence := some 1, sessionEnd := some 0 } ∧
            (∀ y, y ≠ x → t.session y = u.session y) ∧
            t.console c =
              { bound := some x, drift := .inStep, window := none, lastCode := none, grace := none } ∧
            (∀ b, b ≠ c → t.console b = u.console b) ∧
            t.slot = .responseWaiting ⟨0x0B, .ok,
              decide (3 < level.toNat ∨ 3 < cls.toNat ∨ 604800 < allowance.toNat), false, false,
              [.small x.val]⟩ ∧
            { t with sessions := u.sessions, consoles := u.consoles, slot := u.slot } = u)

/-- END-SESSION: NO-SESSION for an id that no session holds, WRONG-STATE in ENDED; otherwise an open take is
CLOSED at its held length without CUT-SHORT, with its deadline, a new serial and its place in the queue, and
no other take changes; the console is unbound and IN-STEP with its window and grace timer stopped, the carry is
discarded, the session end advances by the held length, and the record is ENDED, or FREE at once with an empty
take list (R5, R28, R30, R54, R89, R103, R105, R106). -/
def Obligations.EndSession : Prop :=
  ∀ (s : State) (id : Half), s.hostReady (.endSession id) →
    let u := s.settled
    (u.findSession id = none →
      exec (.endSession id) s = .next (u.respond ⟨0x0C, .noSession, false, false, false, []⟩)) ∧
    ∀ x, u.findSession id = some x →
      ((u.session x).state = .ended →
        exec (.endSession id) s = .next (u.respond ⟨0x0C, .wrongState, false, false, false, []⟩)) ∧
      ((u.session x).state ≠ .ended → ∃ t : State, exec (.endSession id) s = .next t ∧
        ((u.session x).takes ≠ [] → (t.session x).state = .ended ∧ (t.session x).openTake = none ∧
          (t.session x).sealCarry = none ∧ (t.session x).takes = (u.session x).takes) ∧
        ((u.session x).takes = [] → t.session x = Session.freed) ∧
        (∀ c, (u.session x).console = some c → t.console c = Console.reset) ∧
        (∀ i, (u.session x).state = .recording → (u.session x).openTake = some i →
          (t.take i).state = .closed ∧ (t.take i).length = min 36000 (u.take i).length ∧
          (t.take i).flags.cutShort = (u.take i).flags.cutShort ∧
          ((u.take i).session = some x → u.closes t i x (min 36000 (u.take i).length) false) ∧
          (∀ j, j ≠ i → t.take j = u.take j) ∧
          ((u.session x).takes ≠ [] → t.session x =
            { u.session x with
              state := .ended, openTake := none, sealCarry := none
              sessionEnd := (u.session x).sessionEnd.map (· + min 36000 (u.take i).length) }) ∧
          t.slot = .responseWaiting ⟨0x0C, .ok, false, false, false,
            [.quad ((u.session x).sessionEnd.getD 0 + min 36000 (u.take i).length)]⟩) ∧
        ((u.session x).state = .bound → (∀ i, t.take i = u.take i) ∧
          t.queue = u.queue ∧ t.serialCounter = u.serialCounter ∧ t.passDue = u.passDue ∧
          t.events = u.events ∧
          ((u.session x).takes ≠ [] → t.session x =
            { u.session x with state := .ended, openTake := none, sealCarry := none }) ∧
          t.slot = .responseWaiting ⟨0x0C, .ok, false, false, false,
            [.quad ((u.session x).sessionEnd.getD 0)]⟩) ∧
        (∀ y, y ≠ x → t.session y = u.session y) ∧
        (∀ c, (u.session x).console ≠ some c → t.console c = u.console c) ∧
        (∀ n, t.typist n = u.typist n) ∧ (∀ d, t.drop d = u.drop d) ∧
        { t with
          takes := u.takes, sessions := u.sessions, consoles := u.consoles, slot := u.slot
          events := u.events, queue := u.queue, serialCounter := u.serialCounter
          passDue := u.passDue } = u)

/-! ## Takes, from the host -/

/-- SET-DEADLINE of a CLOSED, OFFERED, TYPING or PARKED take: the deadline is the one given, the latest start
is the deadline less the work estimate with the ratio of the take's state, 0 when the estimate is the larger,
the status follows at once with its event, and the answer carries all three. A CLOSED take's entry is moved to
the place that the new start gives it, its serial kept, the others keeping their order. OPEN and RETURNED are
answered WRONG-STATE (R91, R93, R94, R96, R97, R104). -/
def Obligations.SetDeadline : Prop :=
  ∀ (s : State) (h : Half) (q : Quad) (k : TakeIx), s.hostReady (.setDeadline h q) →
    let u := s.settled
    let r := match (u.take k).state, (u.take k).typist with
      | .typing, some n | .parked, some n => (u.typist n).ratio
      | _, _ => u.params.officeRatio
    let start := q.toNat - workEstimate ((u.take k).length - (u.take k).typedTo) r
    let status := statusAt u.officeTime u.params.margin (some start)
    u.resolve h = some k →
    (((u.take k).state = .opened ∨ (u.take k).state = .returned) → exec (.setDeadline h q) s =
      .next (u.respond ⟨0x10, .wrongState, false, false, false, []⟩)) ∧
    ((u.take k).state.watched = true → ∃ t : State, exec (.setDeadline h q) s = .next t ∧
      t.take k = { u.take k with deadline := some q.toNat, latestStart := some start, status := status } ∧
      (∀ j, j ≠ k → t.take j = u.take j) ∧
      t.slot = .responseWaiting
        ⟨0x10, .ok, false, false, false, [.quad q.toNat, .quad start, .small status.code]⟩ ∧
      (∀ e, t.flagSet e = true ↔ u.flagSet e = true ∨ worsened (u.take k).status status = some e) ∧
      ((u.take k).state = .closed → u.entryPlaced t k ∧
        ∀ e ∈ u.queue, e.take = k → ∃ f ∈ t.queue, f.take = k ∧ f.start = start ∧
          f.cls = (u.take k).cls.getD .ordinary ∧ ∃ g ∈ u.queue, g.take = k ∧ f.serial = g.serial) ∧
      ((u.take k).state ≠ .closed → t.queue = u.queue) ∧
      { t with takes := u.takes, slot := u.slot, events := u.events, queue := u.queue } = u)

/-- SET-CLASS: RETURNED is answered WRONG-STATE. A class other than RUSH, a value above 3 being ORDINARY, is
the take's class; on an OPEN take a rush asked for earlier is no longer pending; the deadline, the latest
start and the status are kept, and no other take changes; a CLOSED take's entry of another class is moved to
its place, its serial kept, and the others keep their order. Class RUSH acts as a console's RUSH would. The
answer is the class the take is left with, and its deadline (R90, R92, R104, R128; log entry 16). -/
def Obligations.SetClass : Prop :=
  ∀ (s : State) (h : Half) (b : Byte) (k : TakeIx), s.hostReady (.setClass h b) →
    let u := s.settled
    u.resolve h = some k → (u.take k).state ≠ .certified →
    ((u.take k).state = .returned → exec (.setClass h b) s =
      .next (u.respond ⟨0x11, .wrongState, false, false, false, []⟩)) ∧
    ((u.take k).state ≠ .returned → ∃ t : State, exec (.setClass h b) s = .next t ∧
      (b.toNat = 0 → u.rushEffect t k ∧ ∀ d, t.drop d = u.drop d) ∧
      (b.toNat ≠ 0 →
        t.take k =
          { u.take k with
            cls := some (TakeClass.ofByte b)
            rushPending := if (u.take k).state = .opened then false else (u.take k).rushPending } ∧
        (∀ j, j ≠ k → t.take j = u.take j) ∧
        (∀ f ∈ t.queue, ∃ e ∈ u.queue, e.take = f.take ∧ e.serial = f.serial) ∧
        ((u.take k).state ≠ .closed ∨ (u.take k).cls = some (TakeClass.ofByte b) → t.queue = u.queue) ∧
        ((u.take k).state = .closed → (u.take k).cls ≠ some (TakeClass.ofByte b) →
          u.entryPlaced t k ∧ ∀ f ∈ t.queue, f.take = k → f.cls = TakeClass.ofByte b ∧
            f.start = (u.take k).latestStart.getD 0 ∧ f.rushWaiting = false) ∧
        { t with takes := u.takes, slot := u.slot, queue := u.queue } = u) ∧
      t.slot = .responseWaiting ⟨0x11, .ok, decide (3 < b.toNat), false, false,
        .small ((t.take k).cls.getD .ordinary).rank :: (match (t.take k).deadline with
          | none => [.absent]
          | some d => [.present, .quad d])⟩)

/-- WITHDRAW of a take that a typist holds: an OFFERED take is CLOSED again with its serial and exclusion
list kept; a TYPING or PARKED one is CLOSED with its typed-to kept and a new serial, the counter rising by
one, and the typist whose current take it was goes on: OFFERED with a pending SWITCH, WORKING on a parked
take again, or IDLE; the typist that it was offered to is WORKING with its current take, or IDLE from now.
The take stands in the queue, and the answer is OK with CLOSED. At a PRESENT drop the WITHDRAW is handed on
by the table of R116, the CUEs of a current take being removed first and a resumed take's RESUME taking the
WITHDRAW's place; for a parked take no message is queued. OPEN, CLOSED and RETURNED are answered
WRONG-STATE. That the typist it names holds the take is the hold law (`HoldLawIsKept`) (R8, R11, R21, R72,
R79, R80, R95, R97, R105, R114, R115, R116, R122; log entry 17). -/
def Obligations.WithdrawTake : Prop :=
  ∀ (s : State) (h : Half) (k : TakeIx), s.hostReady (.withdrawTake h) →
    let u := s.settled
    u.resolve h = some k →
    (((u.take k).state = .opened ∨ (u.take k).state = .closed ∨ (u.take k).state = .returned) →
      exec (.withdrawTake h) s = .next (u.respond ⟨0x13, .wrongState, false, false, false, []⟩)) ∧
    ∀ n, (u.take k).typist = some n →
      ((u.take k).state ∈ [.offered, .typing, .parked] → ∃ t : State,
        exec (.withdrawTake h) s = .next t ∧
        t.slot = .responseWaiting ⟨0x13, .ok, false, false, false, [.small 2]⟩ ∧
        (∀ m, m ≠ n → t.typist m = u.typist m) ∧
        { t with
          takes := u.takes, typists := u.typists, drops := u.drops, slot := u.slot,
          events := u.events, queue := u.queue, serialCounter := u.serialCounter,
          passDue := u.passDue } = u ∧
        ((u.take k).state = .offered → (u.typist n).pending.map Pending.take = some k →
          t.take k = { u.take k with state := .closed, typist := none } ∧
          { t.typist n with cuesDropped := (u.typist n).cuesDropped } =
            (if (u.typist n).current = none then
              { u.typist n with
                pending := none, offerTimer := none, state := .idle, idleSince := some u.officeTime }
            else { u.typist n with pending := none, offerTimer := none, state := .working }) ∧
          (∃ e ∈ t.queue, e.take = k ∧ e.serial = (u.take k).serial.getD 0) ∧ t.passDue = true ∧
          ((u.drop (typistDrop n)).state = .present → (t.drop (typistDrop n)).out =
            outWithdrawing false (u.handleOf k) (u.drop (typistDrop n)).out) ∧
          t.events = u.events ∧ t.serialCounter = u.serialCounter ∧ ∀ j, j ≠ k → t.take j = u.take j) ∧
        ((u.take k).state = .parked ∧ (u.typist n).parked = some k ∨
          (u.take k).state = .typing ∧ (u.typist n).current = some k ∧ (u.typist n).parked ≠ some k →
          t.take k = u.givenBack k u.serialCounter ∧ u.raisesWorsened t ∧
          t.serialCounter = (u.serialCounter + 1) % 4294967296 ∧
          ∃ e ∈ t.queue, e.take = k ∧ e.serial = u.serialCounter) ∧
        ((u.take k).state = .parked → (u.typist n).parked = some k →
          t.typist n = { u.typist n with parked := none } ∧ (∀ d, t.drop d = u.drop d) ∧
          ∀ j, j ≠ k → t.take j = u.take j) ∧
        ((u.take k).state = .typing → (u.typist n).current = some k → (u.typist n).parked ≠ some k →
          u.nextAfterCurrent t n ∧ (t.typist n).ratio = (u.typist n).ratio ∧
          (∀ d, d ≠ typistDrop n → t.drop d = u.drop d) ∧
          ((u.drop (typistDrop n)).state = .present →
            let told := outWithdrawing true (u.handleOf k)
              (outLeaving (u.handleOf k) (u.drop (typistDrop n)).out)
            ((u.typist n).state = .switching ∨ (u.typist n).parked = none →
              (t.drop (typistDrop n)).out = told) ∧
            ∀ p x, (u.typist n).state ≠ .switching → (u.typist n).parked = some p →
              (u.take p).package = some x →
              (t.drop (typistDrop n)).out = outResuming (x.resume (u.handleOf p)) told) ∧
          ∀ j, j ≠ k → (u.typist n).parked ≠ some j → t.take j = u.take j))

/-- REQUEUE of a RETURNED take: typed-to is the value given, clamped to the length with CLAMPED; the take is
CLOSED, held by no typist, with the deadline, class and exclusion list kept, a latest start by the office
ratio, a new serial and a place in the queue, which triggers a pass. Other states but CERTIFIED are answered
WRONG-STATE (R22, R94, R105). -/
def Obligations.RequeueTake : Prop :=
  ∀ (s : State) (h p : Half) (k : TakeIx), s.hostReady (.requeueTake h p) →
    let u := s.settled
    let goal := min (u.take k).length p.toNat
    let start := (u.take k).deadline.map
      (· - workEstimate ((u.take k).length - goal) u.params.officeRatio)
    u.resolve h = some k →
    ((u.take k).state ∈ [.opened, .closed, .offered, .typing, .parked] → exec (.requeueTake h p) s =
      .next (u.respond ⟨0x14, .wrongState, false, false, false, []⟩)) ∧
    ((u.take k).state = .returned → ∃ t : State, exec (.requeueTake h p) s = .next t ∧
      t.take k =
        { u.take k with
          state := .closed, typedTo := goal, typist := none, latestStart := start
          status := statusAt u.officeTime u.params.margin start, serial := some u.serialCounter } ∧
      (∀ j, j ≠ k → t.take j = u.take j) ∧ t.serialCounter = (u.serialCounter + 1) % 4294967296 ∧
      (∃ e ∈ t.queue, e.take = k ∧ e.serial = u.serialCounter) ∧ t.passDue = true ∧
      t.slot = .responseWaiting
        ⟨0x14, .ok, decide ((u.take k).length < p.toNat), false, false, [.half goal]⟩ ∧
      { t with
        takes := u.takes, slot := u.slot, events := u.events, queue := u.queue,
        serialCounter := u.serialCounter, passDue := u.passDue } = u)

/-- CERTIFY of a RETURNED take: CERTIFIED with open queries 0, QUERIES-OPEN without change otherwise; an OPEN,
CLOSED, OFFERED, TYPING or PARKED take is answered WRONG-STATE. RETIRE of a CLOSED, RETURNED or CERTIFIED
take: the slot is FREE with its generation advanced by one modulo 128, no entry of the queue and no take list
of its session names it, and the answer is the new generation; OPEN, OFFERED, TYPING and PARKED are answered
WRONG-STATE (R3, R23, R24, R30). -/
def Obligations.CertifyAndRetire : Prop :=
  ∀ (s : State) (h : Half) (k : TakeIx),
    let u := s.settled
    let answer (st : AnswerStatus) : Answer := ⟨0x15, st, false, false, false, []⟩
    u.resolve h = some k →
    (s.hostReady (.certifyTake h) →
      ((u.take k).state ∈ [.opened, .closed, .offered, .typing, .parked] →
        exec (.certifyTake h) s = .next (u.respond (answer .wrongState))) ∧
      ((u.take k).state = .returned → 0 < (u.take k).openQueries →
        exec (.certifyTake h) s = .next (u.respond (answer .queriesOpen))) ∧
      ((u.take k).state = .returned → (u.take k).openQueries = 0 →
        ∃ t : State, exec (.certifyTake h) s = .next t ∧
          t.take k = { u.take k with state := .certified } ∧ (∀ j, j ≠ k → t.take j = u.take j) ∧
          t.slot = .responseWaiting (answer .ok) ∧ { t with takes := u.takes, slot := u.slot } = u)) ∧
    (s.hostReady (.retireTake h) →
      ((u.take k).state ∈ [.opened, .offered, .typing, .parked] → exec (.retireTake h) s =
        .next (u.respond ⟨0x16, .wrongState, false, false, false, []⟩)) ∧
      ((u.take k).state ∈ [.closed, .returned, .certified] → ∃ t : State,
        exec (.retireTake h) s = .next t ∧
        t.take k = Take.freeAt (t.take k).gen ∧
        (t.take k).gen.val = ((u.take k).gen.val + 1) % 128 ∧ t.resolve h = none ∧
        (∀ j, j ≠ k → t.take j = u.take j) ∧ t.queue = u.queue.filter (fun e => e.take ≠ k) ∧
        (∀ x, (u.take k).session = some x → t.session x =
          (let left := (u.session x).takes.filter (· ≠ k)
          if (u.session x).state = .ended ∧ left = [] then Session.freed
          else { u.session x with takes := left })) ∧
        (∀ x, (u.take k).session ≠ some x → t.session x = u.session x) ∧
        t.slot = .responseWaiting
          ⟨0x16, .ok, false, false, false, [.small (((u.take k).gen.val + 1) % 128)]⟩ ∧
        { t with takes := u.takes, queue := u.queue, sessions := u.sessions, slot := u.slot } = u))

/-! ## When a station's request is not carried out -/

/-- When a station's request is not carried out. From a drop that is not PRESENT no request is taken, which is
how the model reads a command that no reply can carry (log entry 5); while an ANSWER waits unsent, a request
is discarded, and the link error count rises by one and holds at 65535. Every request of an unbound console
but PROBE is answered NO-SESSION and changes nothing else. Every request of an OFF typist but SIGN-ON and
PROBE is answered WRONG-STATE; so is CHECKPOINT, QUERY, DONE or RELEASE of a take that is not the typist's
current one, where a stale handle is answered STALE. The request itself is activity, and nothing else changes
but a CUE that makes room (R2, R31, R67, R69, R152). -/
def Obligations.StationRequestsTurnedAway : Prop :=
  ∀ (s : State) (i : Instr),
    let u := s.settled
    (∀ d, (i.console?.map consoleDrop = some d ∨ i.typist?.map typistDrop = some d) →
      ((u.drop d).state ≠ .present → exec i s = .next u) ∧
      ((u.drop d).state = .present → u.answerWaits d = true →
        ∃ t : State, exec i s = .next t ∧
          t.drop d = { u.drop d with linkErrors := min 65535 ((u.drop d).linkErrors + 1) } ∧
          (∀ e, e ≠ d → t.drop e = u.drop e) ∧ { t with drops := u.drops } = u)) ∧
    (∀ c, i.console? = some c → i.isProbe = false → u.stationReady (consoleDrop c) →
      (u.console c).bound = none →
      ∃ t : State, exec i s = .next t ∧
        u.answeredOnly t (consoleDrop c) ⟨requestCode i, .noSession, false, false, false, []⟩ ∧
        { t with drops := u.drops } = u) ∧
    (∀ n, i.typist? = some n → i.isProbe = false → i.isSignOn = false →
      u.stationReady (typistDrop n) → (u.typist n).state = .off →
      ∃ t : State, exec i s = .next t ∧
        u.answeredOnly t (typistDrop n) ⟨requestCode i, .wrongState, false, false, false, []⟩ ∧
        { t.typist n with cuesDropped := (u.typist n).cuesDropped } = (u.typist n).active u.officeTime ∧
        (∀ m, m ≠ n → t.typist m = u.typist m) ∧
        { t with drops := u.drops, typists := u.typists } = u) ∧
    ∀ r, i.onCurrent? = some r → u.stationReady (typistDrop r.1) → (u.typist r.1).state ≠ .off →
      (u.resolve r.2 = none ∨ u.resolve r.2 ≠ (u.typist r.1).current) →
      ∃ t : State, exec i s = .next t ∧
        u.answeredOnly t (typistDrop r.1)
          ⟨requestCode i, if u.resolve r.2 = none then .stale else .wrongState, false, false, false, []⟩ ∧
        { t.typist r.1 with cuesDropped := (u.typist r.1).cuesDropped } =
          (u.typist r.1).active u.officeTime ∧
        (∀ m, m ≠ r.1 → t.typist m = u.typist m) ∧
        { t with drops := u.drops, typists := u.typists } = u

/-! ## Console requests -/

/-- OPEN in a BOUND session with a sequence left and a FREE slot: the lowest FREE slot is OPEN with the
session's values, its generation kept, at the session end; the session is RECORDING it, its list and sequence
advanced, absent after 64; the console's last code is absent and its window does not run. A seal carry is
consumed and opens a span at its level, with its SEAL-START at offset 0, or with SEAL-MARK-LOST, a counted loss
and MARK-LOST where no record is free. The answer is the new handle. RECORDING is answered WRONG-STATE. Without
a sequence left the answer is FULL, and without a FREE slot FULL with DIRECTORY-FULL raised. That a FREE slot
holds no mark is part of the directory law (`RecordLawsAreKept`) (R4, R26, R32, R43, R53, R55; log entry
14). -/
def Obligations.OpenTake : Prop :=
  ∀ (s : State) (c : ConsoleIx) (x : SessionIx),
    let u := s.settled
    let d := consoleDrop c
    let r := u.session x
    u.stationReady d → (u.console c).bound = some x →
    (r.state ≠ .bound → ∃ t : State, exec (.openTake c) s = .next t ∧
      u.answeredOnly t d ⟨0x01, .wrongState, false, false, false, []⟩ ∧ { t with drops := u.drops } = u) ∧
    (r.state = .bound → (r.nextSequence = none ∨ ∀ j, (u.take j).state ≠ .free) →
      ∃ t : State, exec (.openTake c) s = .next t ∧
        u.answeredOnly t d ⟨0x01, .full, false, false, false, []⟩ ∧
        t.events = (if r.nextSequence = none then u.events else withFlag u.events .directoryFull) ∧
        { t with drops := u.drops, events := u.events } = u) ∧
    ∀ (n : Nat) (i : TakeIx), r.state = .bound → r.nextSequence = some n → (u.take i).state = .free →
      (∀ j, j < i → (u.take j).state ≠ .free) →
      ∃ t : State, exec (.openTake c) s = .next t ∧
        (t.take i).state = .opened ∧ (t.take i).gen = (u.take i).gen ∧ (t.take i).session = some x ∧
        (t.take i).sequence = some n ∧ (t.take i).sessionStart = r.sessionEnd ∧
        (t.take i).console = r.console ∧ (t.take i).length = 0 ∧ (t.take i).typedTo = 0 ∧
        (t.take i).cls = r.cls ∧ (t.take i).quals = r.quals ∧ (t.take i).deadline = none ∧
        (r.sealCarry = none → (t.take i).level = r.level.getD 0 ∧ (t.take i).openSpan = none ∧
          (t.take i).marks = []) ∧
        (∀ l, r.sealCarry = some l → (t.take i).level = max (r.level.getD 0) l ∧
          (t.take i).openSpan = some l) ∧
        ((u.take i).marks = [] → u.opensWith t i (r.opens x (u.take i).gen n) r.sealCarry) ∧
        (∀ j, j ≠ i → t.take j = u.take j) ∧
        t.session x =
          { r with
            takes := r.takes ++ [i], openTake := some i, state := .recording, sealCarry := none
            nextSequence := if n < 64 then some (n + 1) else none } ∧
        (∀ y, y ≠ x → t.session y = u.session y) ∧
        t.console c = { u.console c with lastCode := none, window := none } ∧
        (∀ b, b ≠ c → t.console b = u.console b) ∧
        u.answeredOnly t d ⟨0x01, .ok, false, false, false, [.handle ⟨i, (u.take i).gen⟩]⟩ ∧
        { t with
          takes := u.takes, sessions := u.sessions, consoles := u.consoles, drops := u.drops,
          events := u.events } = u

/-- CLOSE in a RECORDING session: the open take is CLOSED at the final length, taken as 36000 above that, with
every mark brought within it, its span ended, a deadline of the office time plus the allowance held at the
top, a latest start by the office ratio with its status and event, a serial and a place in the queue, which
triggers a pass; a rush pending is applied; the session is BOUND, its end advanced, with no carry; its console's
window stops and its last code is absent. BOUND is answered WRONG-STATE (R5, R33, R36, R39, R89, R90, R94, R95,
R97, R104, R105). -/
def Obligations.CloseTake : Prop :=
  ∀ (s : State) (c : ConsoleIx) (final : Half) (x : SessionIx),
    let u := s.settled
    let d := consoleDrop c
    u.stationReady d → (u.console c).bound = some x →
    ((u.session x).state ≠ .recording → ∃ t : State, exec (.closeTake c final) s = .next t ∧
      u.answeredOnly t d ⟨0x03, .wrongState, false, false, false, []⟩ ∧ { t with drops := u.drops } = u) ∧
    ∀ i, (u.session x).state = .recording → (u.session x).openTake = some i →
      (u.take i).session = some x →
      let len := min 36000 final.toNat
      let allowed := min 4294967295 (u.officeTime + (u.session x).allowance.getD 0)
      let rushed := min 4294967295 (u.officeTime + u.params.rushAllowance)
      ∃ t : State, exec (.closeTake c final) s = .next t ∧
        (t.take i).state = .closed ∧ (t.take i).length = len ∧ (t.take i).openSpan = none ∧
        (t.take i).marks = (u.take i).marks.map (fun m => { m with offset := min len m.offset }) ∧
        (t.take i).rushPending = false ∧
        { (t.take i).flags with overlong := (u.take i).flags.overlong } = (u.take i).flags ∧
        { t.take i with
          state := .opened, length := (u.take i).length, openSpan := (u.take i).openSpan
          marks := (u.take i).marks, rushPending := (u.take i).rushPending
          flags := (u.take i).flags, cls := (u.take i).cls
          deadline := (u.take i).deadline, latestStart := (u.take i).latestStart
          status := (u.take i).status, serial := (u.take i).serial } =
          { u.take i with state := .opened } ∧
        ((t.take i).flags.overlong = true ↔ (u.take i).flags.overlong = true ∨ len = 36000) ∧
        (t.take i).cls = (if (u.take i).rushPending then some .rush else (u.take i).cls) ∧
        (t.take i).deadline =
          some (if (u.take i).rushPending then min allowed rushed else allowed) ∧
        (t.take i).serial = some u.serialCounter ∧
        t.serialCounter = (u.serialCounter + 1) % 4294967296 ∧
        (∃ e ∈ t.queue, e.take = i ∧ e.serial = u.serialCounter ∧ e.rushWaiting = false ∧
          some e.start = (t.take i).latestStart) ∧ t.passDue = true ∧ u.entryPlaced t i ∧
        (t.take i).latestStart = (t.take i).deadline.map
          (· - workEstimate (len - (u.take i).typedTo) u.params.officeRatio) ∧
        (t.take i).status = statusAt u.officeTime u.params.margin (t.take i).latestStart ∧
        (∀ e, t.flagSet e = true ↔ u.flagSet e = true ∨
          worsened (u.take i).status (t.take i).status = some e ∨
          e = .overlong ∧ len = 36000 ∧ (u.take i).flags.overlong = false) ∧
        (∀ j, j ≠ i → t.take j = u.take j) ∧
        t.session x =
          { u.session x with
            sessionEnd := (u.session x).sessionEnd.map (· + len)
            openTake := none, state := .bound, sealCarry := none } ∧
        (∀ y, y ≠ x → t.session y = u.session y) ∧
        ((u.session x).console = some c →
          t.console c = { u.console c with lastCode := none, window := none } ∧
          ∀ b, b ≠ c → t.console b = u.console b) ∧
        u.answeredOnly t d ⟨0x03, .ok, decide (36000 < final.toNat), false, false,
          [.handle (u.handleOf i), .half len]⟩ ∧
        { t with
          takes := u.takes, sessions := u.sessions, consoles := u.consoles, drops := u.drops,
          events := u.events, queue := u.queue, serialCounter := u.serialCounter,
          passDue := u.passDue } = u

/-- ROLL in a RECORDING session with a sequence left and a FREE slot: what CLOSE does to the open take, its
record, its place in the queue and its events, is done, and the lowest FREE slot is OPEN in the same event with
the session's values, at the advanced session end. A span open at the close, or else the session's carry, goes
on in the new take at its level, with its SEAL-START at offset 0, or with SEAL-MARK-LOST, a counted loss and
MARK-LOST where no record is free. The answer carries both handles. Without a sequence or a slot the close
stands, the session keeps the span's level as its carry, and the answer is FULL with the closed take's handle
alone. In BOUND it does what OPEN does, with the new handle alone. That a FREE slot holds no mark is part of
the directory law (`RecordLawsAreKept`) (R4, R26, R34, R43, R53, R54, R55; log entry 14). -/
def Obligations.RollTake : Prop :=
  ∀ (s : State) (c : ConsoleIx) (final : Half) (x : SessionIx),
    let u := s.settled
    let d := consoleDrop c
    let len := min 36000 final.toNat
    let clamped := decide (36000 < final.toNat)
    let full : Prop := (u.session x).nextSequence = none ∨ ∀ j, (u.take j).state ≠ .free
    u.stationReady d → (u.console c).bound = some x →
    ((u.session x).state = .bound → ∃ t : State, exec (.rollTake c final) s = .next t ∧
      ∃ v : State, exec (.openTake c) s = .next v ∧ { t with drops := v.drops } = v ∧
      ∃ a : Answer, v.answerAt d = some a ∧
        u.answeredOnly t d { a with code := 0x02, fields := [.absent] ++ (match a.fields with
          | [] => [.absent]
          | fs => [.present] ++ fs) }) ∧
    ∀ i, (u.session x).state = .recording → (u.session x).openTake = some i →
      (u.take i).state = .opened → (u.take i).session = some x →
      (full → ∃ t : State, exec (.rollTake c final) s = .next t ∧
        ∃ v : State, exec (.closeTake c final) s = .next v ∧
        t.session x =
          { v.session x with sealCarry := (u.take i).openSpan.or (u.session x).sealCarry } ∧
        (∀ y, y ≠ x → t.session y = u.session y) ∧
        t.events = (if (u.session x).nextSequence = none then v.events
          else withFlag v.events .directoryFull) ∧
        { t with sessions := v.sessions, events := v.events, drops := v.drops } = v ∧
        u.answeredOnly t d ⟨0x02, .full, clamped, false, false,
          [.present, .handle (u.handleOf i), .absent]⟩) ∧
      ∀ (j : TakeIx) (n : Nat), (u.session x).nextSequence = some n → (u.take j).state = .free →
        (∀ k, k < j → (u.take k).state ≠ .free) →
        ∃ t : State, exec (.rollTake c final) s = .next t ∧
          (t.take i).state = .closed ∧ (t.take i).length = len ∧ (t.take i).openSpan = none ∧
          (∃ e ∈ t.queue, e.take = i) ∧
          (t.take j).state = .opened ∧ (t.take j).session = some x ∧ (t.take j).sequence = some n ∧
          (t.take j).sessionStart = (u.session x).sessionEnd.map (· + len) ∧
          (∀ l, (u.take i).openSpan = some l →
            (t.take j).openSpan = some l ∧ l ≤ (t.take j).level) ∧
          ((u.take i).openSpan = none → (u.session x).sealCarry = none →
            (t.take j).openSpan = none) ∧
          (t.session x).state = .recording ∧ (t.session x).openTake = some j ∧
          (t.session x).takes = (u.session x).takes ++ [j] ∧ (t.session x).sealCarry = none ∧
          (∀ k, k ≠ i → k ≠ j → t.take k = u.take k) ∧
          (∃ v : State, exec (.closeTake c final) s = .next v ∧ t.take i = v.take i ∧
            ((u.take j).marks = [] → v.opensWith t j ((v.session x).opens x (u.take j).gen n)
              ((u.take i).openSpan.or (u.session x).sealCarry)) ∧
            t.session x =
              { v.session x with
                takes := (u.session x).takes ++ [j], openTake := some j, state := .recording
                sealCarry := none, nextSequence := if n < 64 then some (n + 1) else none } ∧
            (∀ y, y ≠ x → t.session y = u.session y) ∧
            ((u.session x).console = some c →
              t.console c = { u.console c with lastCode := none, window := none } ∧
              ∀ b, b ≠ c → t.console b = u.console b) ∧
            { t with
              takes := v.takes, sessions := v.sessions, consoles := v.consoles, drops := v.drops
              events := v.events } = v) ∧
          u.answeredOnly t d ⟨0x02, .ok, clamped, false, false,
            [.present, .handle (u.handleOf i), .present, .handle ⟨j, (u.take j).gen⟩]⟩

/-- MARK of a kind that a console may insert, in a take of the console's own session that is not RETURNED or
CERTIFIED, an off-record kind in an OPEN take alone. The offset is the one given, clamped to the length, and
the held length for an off-record kind. With room to store it, the mark stands in the list under the lowest
free identifier, behind every mark at or below its offset, the other marks as they were, and no other take
changes. Without room it is answered FULL, is counted in the marks-lost count, which holds at 255, and raises
MARK-LOST. The mark's level is the level in force where it stands, and the context of a typist that holds the
take is moved with its cursor. With an identical mark standing the first of the list is answered and nothing
changes. The refusals come in the order of R48. There is room for a mark while the list holds less than 255
marks and a record is free, more than 64 for the kinds that bound nothing; the lowest free identifier is the
lowest that no mark bears (R42, R43, R44, R45, R46, R47, R48, R51, R58; log entries 14 and 29). -/
def Obligations.MarkTake : Prop :=
  (∀ (v : State) (i : TakeIx) (k : MarkKind) (id : MarkId),
    let free := 4096 - (v.takes.toList.map (fun x => x.marks.length)).sum
    let used (n : MarkId) : Prop := ∃ i, ∃ m ∈ (v.take i).marks, m.id = n
    (v.hasRoom (v.take i) k = true ↔ (v.take i).marks.length < 255 ∧ 0 < free ∧
      (k ∈ [.sealStart, .sealEnd, .offRecordStart, .offRecordEnd] ∨ 64 < free)) ∧
    (v.lowestFree = some id ↔ ¬used id ∧ ∀ n, n < id → used n)) ∧
  (∀ (s : State) (c : ConsoleIx) (h : Half) (kind : Byte) (offset : Half) (speaker : Option Byte)
    (label : Option Text) (x : SessionIx) (st : AnswerStatus),
    let u := s.settled
    let go := Instr.markTake c h kind offset speaker label
    u.stationReady (consoleDrop c) → (u.console c).bound = some x →
    st = (if kind.toNat ∉ [0, 1, 2, 3, 6, 7, 9] ∨ labelIntake label = none then .unknown
      else match u.resolve h with
        | none => .stale
        | some i =>
          if (u.take i).state = .certified then .guarded
          else if (u.take i).state = .returned then .wrongState
          else if (kind.toNat = 6 ∨ kind.toNat = 7) ∧ (u.take i).state ≠ .opened then .wrongState
          else if (u.take i).session ≠ some x then .denied
          else .ok) →
    st ≠ .ok → ∃ t : State, exec go s = .next t ∧
      u.answeredOnly t (consoleDrop c) ⟨0x04, st, false, false, false, []⟩ ∧
      { t with drops := u.drops } = u) ∧
  ∀ (s : State) (c : ConsoleIx) (h : Half) (kind : Byte) (offset : Half) (speaker : Option Byte)
    (label : Option Text) (x : SessionIx) (i : TakeIx) (k : MarkKind) (kept : Option Text) (cut : Bool),
    let u := s.settled
    let d := consoleDrop c
    let go := Instr.markTake c h kind offset speaker label
    let list := (u.take i).marks
    let offRecord : Bool := k = .offRecordStart ∨ k = .offRecordEnd
    let place := if offRecord then (u.take i).length else min (u.take i).length offset.toNat
    let code := (speaker.bind (fun b => if b.toNat = 0 then none else some (min 254 b.toNat)))
    let clamped := cut || decide (∃ b, speaker = some b ∧ 254 < b.toNat) ||
      decide (offRecord = false ∧ (u.take i).length < offset.toNat)
    u.stationReady d → (u.console c).bound = some x → MarkKind.ofCode kind.toNat = some k →
    k ∈ [.speaker, .exhibit, .objection, .ruling, .note, .offRecordStart, .offRecordEnd] →
    labelIntake label = some (kept, cut) → u.resolve h = some i →
    (u.take i).state ≠ .certified → (u.take i).state ≠ .returned →
    (offRecord = true → (u.take i).state = .opened) → (u.take i).session = some x →
    let same (m : Mark) : Bool := decide (m.kind = k ∧ m.offset = place ∧ m.speaker = code ∧
      m.label = kept ∧ m.source = .console c)
    (∀ m, list.find? same = some m → ∃ t : State, exec go s = .next t ∧
      u.answeredOnly t d ⟨0x04, .ok, clamped, false, false, [.half m.id.val, .half place]⟩ ∧
      { t with drops := u.drops } = u) ∧
    (∀ id, list.find? same = none → u.hasRoom (u.take i) k = true → u.lowestFree = some id →
      ∃ t : State, exec go s = .next t ∧
        (∃ before, before = list.takeWhile (fun m => decide (m.offset ≤ place)) ∧
          insertedBehind
            { id := id, offset := place, kind := k, speaker := code, label := kept
              level := u.levelBehind i before, source := .console c, query := none
              unverified := decide ((u.console c).drift = .drift) }
            before list (t.take i).marks ∧
          u.handedOn t i (fun cursor _ => if before.length < cursor then cursor + 1 else cursor)
            (fun cursor notes => if before.length < cursor ∧ k = .note then min 255 (notes + 1)
              else notes)) ∧
        (∀ j, j ≠ i → t.take j = u.take j) ∧
        { t.take i with marks := list, package := (u.take i).package } = u.take i ∧
        (∀ n, (u.take i).typist ≠ some n → t.typist n = u.typist n) ∧
        u.answeredOnly t d ⟨0x04, .ok, clamped, false, false, [.half id.val, .half place]⟩ ∧
        { t with takes := u.takes, typists := u.typists, drops := u.drops } = u) ∧
    (list.find? same = none → u.hasRoom (u.take i) k = false → ∃ t : State, exec go s = .next t ∧
      t.take i = { u.take i with marksLost := min 255 ((u.take i).marksLost + 1) } ∧
      (∀ j, j ≠ i → t.take j = u.take j) ∧ t.events = withFlag u.events .markLost ∧
      u.answeredOnly t d ⟨0x04, .full, clamped, false, false, []⟩ ∧
      { t with takes := u.takes, events := u.events, drops := u.drops } = u)

/-- SEAL in a RECORDING session: the level is clamped to 1..3; a span opens at it, or the open span is raised
to it, and the take level rises with the span. With no identical mark standing and room for it, the SEAL-START
stands at the held length under the lowest free identifier, which is answered, at the span's level (at the
take level once SEAL-MARK-LOST is set); with an identical one standing that is answered and no mark is stored;
without room the answer is FULL, SEAL-MARK-LOST is set, the loss is counted and MARK-LOST is raised. UNSEAL:
with no identical mark standing and room for it, the SEAL-END stands at the held length with the level in
force before it, its identifier is answered and the span is none; with an identical one standing nothing
changes; without room the answer is FULL, the loss is counted and raised, and the span stays open. That a suppressed
UNSEAL leaves open a span which a suppressed SEAL has opened again is the model's choice (log entry 33). UNSEAL
never changes the take level. All the other marks stand as they were. In BOUND both are answered WRONG-STATE,
and a refused label UNKNOWN (R42, R43, R44, R45, R46, R47, R49, R50, R51, R53; log entries 11, 12, 14, 27, 29
and 33). -/
def Obligations.SealAndUnseal : Prop :=
  (∀ (s : State) (c : ConsoleIx) (b : Byte) (label : Option Text) (x : SessionIx) (st : AnswerStatus),
    let u := s.settled
    let d := consoleDrop c
    u.stationReady d → (u.console c).bound = some x →
    (labelIntake label = none ∧ st = .unknown ∨
      labelIntake label ≠ none ∧ (u.session x).state ≠ .recording ∧ st = .wrongState) →
    (∃ t : State, exec (.sealTake c b label) s = .next t ∧
      u.answeredOnly t d ⟨0x05, st, false, false, false, []⟩ ∧ { t with drops := u.drops } = u) ∧
    ∃ t : State, exec (.unsealTake c label) s = .next t ∧
      u.answeredOnly t d ⟨0x06, st, false, false, false, []⟩ ∧ { t with drops := u.drops } = u) ∧
  ∀ (s : State) (c : ConsoleIx) (b : Byte) (label kept : Option Text) (cut : Bool) (x : SessionIx)
    (i : TakeIx),
    let u := s.settled
    let d := consoleDrop c
    let k := u.take i
    let l : Level := ⟨max 1 (min 3 b.toNat), by omega⟩
    let span := match k.openSpan with
      | none => l
      | some o => max o l
    let clamped := cut || decide (b.toNat < 1 ∨ 3 < b.toNat)
    let sealed : Take :=
      { k with openSpan := some span, level := max k.level span }
    let same (kind : MarkKind) (m : Mark) : Bool := decide (m.kind = kind ∧ m.offset = k.length ∧
      m.speaker = none ∧ m.label = kept ∧ m.source = .console c)
    let mark (kind : MarkKind) (id : MarkId) (level : Level) : Mark :=
      { id := id, offset := k.length, kind := kind, speaker := none, label := kept, level := level
        source := .console c, query := none, unverified := decide ((u.console c).drift = .drift) }
    u.stationReady d → (u.console c).bound = some x → (u.session x).state = .recording →
    (u.session x).openTake = some i → k.state = .opened → labelIntake label = some (kept, cut) →
    (∃ t : State, exec (.sealTake c b label) s = .next t ∧ (∀ j, j ≠ i → t.take j = u.take j) ∧
      (∀ m, k.marks.find? (same .sealStart) = some m →
        t.take i = sealed ∧ t.events = u.events ∧
        u.answeredOnly t d ⟨0x05, .ok, clamped, false, false, [.half m.id.val]⟩) ∧
      (∀ id, k.marks.find? (same .sealStart) = none → u.hasRoom k .sealStart = true →
        u.lowestFree = some id →
        t.take i = { sealed with marks := (t.take i).marks } ∧ t.events = u.events ∧
        (∃ before, before = k.marks.takeWhile (fun a => decide (a.offset ≤ k.length)) ∧
          insertedBehind (mark .sealStart id (if k.flags.sealMarkLost = true then sealed.level else span))
            before k.marks (t.take i).marks) ∧
        u.answeredOnly t d ⟨0x05, .ok, clamped, false, false, [.half id.val]⟩) ∧
      (k.marks.find? (same .sealStart) = none → u.hasRoom k .sealStart = false →
        t.take i = { sealed with
          marksLost := min 255 (k.marksLost + 1), flags := { k.flags with sealMarkLost := true } } ∧
        t.events = withFlag u.events .markLost ∧
        u.answeredOnly t d ⟨0x05, .full, clamped, false, false, []⟩) ∧
      { t with takes := u.takes, drops := u.drops, events := u.events } = u) ∧
    ∃ t : State, exec (.unsealTake c label) s = .next t ∧ (∀ j, j ≠ i → t.take j = u.take j) ∧
      (∀ m, k.marks.find? (same .sealEnd) = some m → t.take i = k ∧ t.events = u.events ∧
        u.answeredOnly t d ⟨0x06, .ok, cut, false, false, [.half m.id.val]⟩) ∧
      (∀ id, k.marks.find? (same .sealEnd) = none → u.hasRoom k .sealEnd = true →
        u.lowestFree = some id →
        t.take i = { k with marks := (t.take i).marks, openSpan := none } ∧ t.events = u.events ∧
        (∃ before, before = k.marks.takeWhile (fun a => decide (a.offset ≤ k.length)) ∧
          insertedBehind (mark .sealEnd id (u.levelBehind i before)) before k.marks (t.take i).marks) ∧
        u.answeredOnly t d ⟨0x06, .ok, cut, false, false, [.half id.val]⟩) ∧
      (k.marks.find? (same .sealEnd) = none → u.hasRoom k .sealEnd = false →
        t.take i = { k with marksLost := min 255 (k.marksLost + 1) } ∧
        t.events = withFlag u.events .markLost ∧
        u.answeredOnly t d ⟨0x06, .full, cut, false, false, []⟩) ∧
      { t with takes := u.takes, drops := u.drops, events := u.events } = u

/-- RESOLVE of a QUERY mark, by the host or by a console. The refusals come in the order of R57. A query that
is RESOLVED already changes nothing, and with a label the identifier of an identical NOTE that stands is
answered. One that is OPEN is RESOLVED, the open-query count falls by one, and the notes pending of a typist
that holds the take rise by one. With a label, a NOTE of the asker's at the query's offset follows: where an
identical one stands, the first of the list is answered; with room it stands under the lowest free identifier,
which is answered, at the level in force there, and moves the holder's cursor; without room the loss is
counted, MARK-LOST is raised, and the answer is OK with "note not stored". All the other marks stand as they
were (R42, R43, R44, R45, R46, R51, R57, R58; log entries 12, 14 and 29). -/
def Obligations.ResolveQuery : Prop :=
  (∀ (s : State) (a : Asker) (h m : Half) (label : Option Text) (st : AnswerStatus),
    let u := s.settled
    let go := Instr.resolveQuery a h m label
    let foreign (i : TakeIx) : Prop := ∃ c, a = .console c ∧ (u.take i).session ≠ (u.console c).bound
    s.askerReady a go → (∀ n, a ≠ .typist n) → (∀ c, a = .console c → (u.console c).bound ≠ none) →
    ((labelIntake label = none ∧ st = .unknown) ∨
      (labelIntake label ≠ none ∧ u.resolve h = none ∧ st = .stale) ∨
      ∃ i, u.resolve h = some i ∧ labelIntake label ≠ none ∧
        ((u.take i).state = .certified ∧ st = .guarded ∨
          (u.take i).state = .opened ∧ st = .wrongState ∨
          (u.take i).state ≠ .certified ∧ (u.take i).state ≠ .opened ∧
            (foreign i ∧ st = .denied ∨
              ¬foreign i ∧ (u.take i).marks.find? (fun k => k.id.val = m.toNat) = none ∧ st = .stale ∨
              ¬foreign i ∧ st = .wrongState ∧
                ∃ q, (u.take i).marks.find? (fun k => k.id.val = m.toNat) = some q ∧
                  q.kind ≠ .query))) →
    ∃ t : State, exec go s = .next t ∧
      u.tells t a ⟨requestCode go, st, false, false, false, []⟩ ∧
      { t with slot := u.slot, drops := u.drops } = u) ∧
  ∀ (s : State) (a : Asker) (h m : Half) (label kept : Option Text) (cut : Bool) (i : TakeIx) (q : Mark),
    let u := s.settled
    let go := Instr.resolveQuery a h m label
    let k := u.take i
    let mine : Prop := a = .host ∨
      ∃ c x, a = .console c ∧ (u.console c).bound = some x ∧ k.session = some x
    let source : Source := match a with
      | .console c => .console c
      | _ => .supervisor
    let same (n : Mark) : Bool := decide (n.kind = .note ∧ n.offset = q.offset ∧ n.speaker = none ∧
      n.label = kept ∧ n.source = source)
    let answer (own : Bool) (fs : List Field) : Answer := ⟨requestCode go, .ok, cut, own, false, fs⟩
    let list := k.marks.map (fun n => if n.id = q.id then { n with query := some .resolved } else n)
    let done : Take := { k with openQueries := k.openQueries - 1, marks := list }
    let raised (_ notes : Nat) : Nat := min 255 (notes + 1)
    s.askerReady a go → mine → labelIntake label = some (kept, cut) → u.resolve h = some i →
    k.state ≠ .certified → k.state ≠ .opened →
    k.marks.find? (fun n => n.id.val = m.toNat) = some q → q.kind = .query →
    ∃ t : State, exec go s = .next t ∧ (∀ j, j ≠ i → t.take j = u.take j) ∧
      { t with
        slot := u.slot, drops := u.drops, takes := u.takes, typists := u.typists,
        events := u.events } = u ∧
      (q.query = some .resolved → t.takes = u.takes ∧ t.typists = u.typists ∧ t.events = u.events ∧
        u.tells t a (answer false (match if kept = none then none else k.marks.find? same with
          | none => [.absent]
          | some n => [.present, .half n.id.val]))) ∧
      (q.query ≠ some .resolved → kept = none →
        t.take i = { done with package := (t.take i).package } ∧ t.events = u.events ∧
        u.handedOn t i (fun cursor _ => cursor) raised ∧ u.tells t a (answer false [.absent])) ∧
      (q.query ≠ some .resolved → kept ≠ none →
        (∀ n, list.find? same = some n →
          t.take i = { done with package := (t.take i).package } ∧ t.events = u.events ∧
          u.handedOn t i (fun cursor _ => cursor) raised ∧
          u.tells t a (answer false [.present, .half n.id.val])) ∧
        (∀ id, list.find? same = none → u.hasRoom k .note = true → u.lowestFree = some id →
          t.take i = { done with marks := (t.take i).marks, package := (t.take i).package } ∧
          t.events = u.events ∧
          (∃ before, before = list.takeWhile (fun n => decide (n.offset ≤ q.offset)) ∧
            insertedBehind
              { id := id, offset := q.offset, kind := .note, speaker := none, label := kept
                level := u.levelBehind i before, source := source, query := none
                unverified := match a with
                  | .console c => decide ((u.console c).drift = .drift)
                  | _ => false }
              before list (t.take i).marks ∧
            u.handedOn t i (fun cursor _ => if before.length < cursor then cursor + 1 else cursor)
              raised) ∧
          u.tells t a (answer false [.present, .half id.val])) ∧
        (list.find? same = none → u.hasRoom k .note = false →
          t.take i = { done with
            marksLost := min 255 (k.marksLost + 1), package := (t.take i).package } ∧
          t.events = withFlag u.events .markLost ∧
          u.handedOn t i (fun cursor _ => cursor) raised ∧ u.tells t a (answer true [.absent])))

/-- LIST of a console: DENIED for a take of another session or of a level above its effective clearance; of a
typist: DENIED for a take above its effective clearance that is not its own current one. Otherwise the answer
is the marks from the start position on, at most 4, each with the fields of R59 in their order, and the number
remaining. STALE comes first. Nothing
changes but the typist's activity, a CUE that makes room for the ANSWER, which is counted, and, where it lists
its current take, its notes pending, which are 0 then (R59, R72, R69, R135; log entry 18). -/
def Obligations.ListMarks : Prop :=
  ∀ (s : State) (a : Asker) (h : Half) (start : Byte) (q : Option Byte),
    let u := s.settled
    let i := Instr.listMarks a h start q
    let level : Level := (q.map levelOf).getD 3
    let heard (d : DropIx) : Level := if u.auditFailure then 0 else min (u.clearance d) level
    let answer (st : AnswerStatus) (b : Bool) (fs : List Field) : Answer :=
      ⟨requestCode i, st, b, false, false, fs⟩
    let heardBy (k : TakeIx) : Prop :=
      (∃ c, a = .console c ∧ (u.console c).bound = (u.take k).session ∧
        (u.take k).level ≤ heard (consoleDrop c)) ∨
      ∃ n, a = .typist n ∧
        ((u.typist n).current = some k ∨ (u.take k).level ≤ heard (typistDrop n))
    s.askerReady a i → a ≠ .host → (∀ c, a = .console c → (u.console c).bound ≠ none) →
    (∀ n, a = .typist n → (u.typist n).state ≠ .off) →
    ∃ t : State, exec i s = .next t ∧
      (u.resolve h = none → u.tells t a (answer .stale false [])) ∧
      (∀ k, u.resolve h = some k → ¬heardBy k → u.tells t a (answer .denied false [])) ∧
      (∀ k, u.resolve h = some k → heardBy k →
        let marks := (u.take k).marks
        let first := min marks.length start.toNat
        u.tells t a (answer .ok (decide (marks.length < start.toNat))
          (listedFrom first ((marks.drop first).take 4) ++
            [.small (marks.length - first - min 4 (marks.length - first))]))) ∧
      (∀ n, a = .typist n →
        { t.typist n with cuesDropped := (u.typist n).cuesDropped } =
          { u.typist n with
            context := (u.typist n).context.map (fun c =>
              { c with
                lastActivity := u.officeTime
                notes := if (u.resolve h).isSome = true ∧ u.resolve h = (u.typist n).current then 0
                  else c.notes }) }) ∧
      (∀ n, a ≠ .typist n → t.typist n = u.typist n) ∧
      { t with drops := u.drops, typists := u.typists } = u

/-- LOCATE: the found mark is the last in list order, in the take of the session's list with the highest
sequence, of those that lie at or before the position asked for, are of the kind and the speaker asked for and
are not above the asker's effective clearance; its fields are answered, or NOT-FOUND with the session's
present end. With a bookmark asked for, a found mark that is the console's own bookmark, or the first mark of
the list that is identical to the bookmark, is reported as the bookmark, and nothing changes. Otherwise, with
room to store it, a BOOKMARK of the console's stands at the found mark's offset under the lowest free
identifier, which is answered, at the level in force there, and the holder's cursor moves with it; without room,
and in a CERTIFIED take, nothing changes and "bookmark not set" is answered. Nothing else changes. A kind code
outside the table, but for 255, is answered UNKNOWN (R42, R43, R45, R46, R51, R58, R61, R123, R124, R125, R126,
R127; log entries 14, 15 and 29). -/
def Obligations.LocateMark : Prop :=
  (∀ (s : State) (c : ConsoleIx) (kind : Byte) (speaker : Option Byte) (before : Option Quad)
    (q : Option Byte) (bookmark : Bool) (x : SessionIx),
    let u := s.settled
    u.stationReady (consoleDrop c) → (u.console c).bound = some x → 10 < kind.toNat → kind.toNat ≠ 255 →
    ∃ t : State, exec (.locateMark c (some kind) speaker before q bookmark) s = .next t ∧
      u.answeredOnly t (consoleDrop c) ⟨0x09, .unknown, false, false, false, []⟩ ∧
      { t with drops := u.drops } = u) ∧
  ∀ (s : State) (c : ConsoleIx) (kind speaker : Option Byte) (before : Option Quad) (q : Option Byte)
    (bookmark : Bool) (x : SessionIx) (k : Option MarkKind),
    let u := s.settled
    let d := consoleDrop c
    let go := Instr.locateMark c kind speaker before q bookmark
    let heard : Level :=
      if u.auditFailure then 0 else min (u.clearance d) ((q.map levelOf).getD 3)
    let code := (speaker.bind (fun b => if b.toNat = 0 then none else some (min 254 b.toNat)))
    let clamped := decide (∃ b, speaker = some b ∧ 254 < b.toNat) ||
      decide (∃ b, q = some b ∧ 3 < b.toNat)
    let presentEnd := (u.session x).sessionEnd.getD 0 +
      (match (u.session x).openTake with
        | none => 0
        | some i => (u.take i).length)
    let limit := (before.map BitVec.toNat).getD presentEnd
    let fits (i : TakeIx) (m : Mark) : Bool :=
      decide ((u.take i).sessionStart.getD 0 + m.offset ≤ limit) && decide (k = none ∨ k = some m.kind) &&
        decide (code = none ∨ code = m.speaker) && decide (m.level ≤ heard)
    let found : Option (TakeIx × Nat × Mark) := (u.session x).takes.reverse.findSome? (fun i =>
      ((u.take i).marks.zipIdx.reverse.find? (fun z => fits i z.1)).map (fun z => (i, z.2, z.1)))
    u.stationReady d → (u.console c).bound = some x →
    ((kind = none ∨ kind = some 255) ∧ k = none ∨
      ∃ b, kind = some b ∧ b ≠ 255 ∧ k = MarkKind.ofCode b.toNat ∧ k ≠ none) →
    ∃ t : State, exec go s = .next t ∧
      (found = none →
        u.answeredOnly t d ⟨0x09, .notFound, clamped, false, false, [.quad presentEnd]⟩ ∧
        { t with drops := u.drops } = u) ∧
      ∀ i p m, found = some (i, p, m) →
        let list := (u.take i).marks
        let answer (set : Option MarkId) : Answer :=
          let fields : List (List Field) := [
            [.handle (u.handleOf i), .half m.id.val, .small p, .half m.offset,
              .quad ((u.take i).sessionStart.getD 0 + m.offset), .small m.kind.code],
            optional m.speaker (fun n => [.small n]), optional m.label (fun l => [.label l]),
            [.small m.level.val], optional set (fun b => [.half b.val])]
          ⟨0x09, .ok, clamped, bookmark && set.isNone, bookmark, fields.flatten⟩
        let mine (a : Mark) : Bool := decide (a.kind = .bookmark ∧ a.offset = m.offset ∧
          a.speaker = none ∧ a.label = none ∧ a.source = .console c)
        (bookmark = false ∨ (u.take i).state = .certified →
          u.answeredOnly t d (answer none) ∧ { t with drops := u.drops } = u) ∧
        (bookmark = true → (u.take i).state ≠ .certified → mine m = true →
          u.answeredOnly t d (answer (some m.id)) ∧ { t with drops := u.drops } = u) ∧
        (bookmark = true → (u.take i).state ≠ .certified → mine m = false →
          (∀ b, list.find? mine = some b →
            u.answeredOnly t d (answer (some b.id)) ∧ { t with drops := u.drops } = u) ∧
          (list.find? mine = none → u.hasRoom (u.take i) .bookmark = false →
            u.answeredOnly t d (answer none) ∧ { t with drops := u.drops } = u) ∧
          ∀ id, list.find? mine = none → u.hasRoom (u.take i) .bookmark = true → u.lowestFree = some id →
            u.answeredOnly t d (answer (some id)) ∧
            { t.take i with marks := list, package := (u.take i).package } = u.take i ∧
            ∃ before, before = list.takeWhile (fun a => decide (a.offset ≤ m.offset)) ∧
              insertedBehind
                { id := id, offset := m.offset, kind := .bookmark, speaker := none, label := none
                  level := u.levelBehind i before, source := .console c, query := none
                  unverified := decide ((u.console c).drift = .drift) }
                before list (t.take i).marks ∧
              u.handedOn t i (fun cursor _ => if before.length < cursor then cursor + 1 else cursor)
                (fun _ notes => notes)) ∧
        (∀ a ∈ (u.take i).marks, a ∈ (t.take i).marks) ∧
        (∀ a ∈ (t.take i).marks, a ∈ (u.take i).marks ∨
          (a.kind = .bookmark ∧ a.offset = m.offset ∧ a.source = .console c)) ∧
        (∀ j, j ≠ i → t.take j = u.take j) ∧
        (∀ n, (u.take i).typist ≠ some n → t.typist n = u.typist n) ∧
        { t with takes := u.takes, typists := u.typists, drops := u.drops } = u

/-- RUSH of a take of the console's session, which is answered OK. An OPEN take has its rush pending. A take
in CLOSED, OFFERED or TYPING is RUSH, its deadline brought to the smaller of itself and the office time plus
the rush allowance, its latest start and status found anew; a CLOSED take that was of another class triggers a
pass, and an OFFERED or TYPING one stays where it is. A PARKED take is CLOSED and waits again. A stale handle
is answered STALE, a CERTIFIED take GUARDED, a RETURNED one WRONG-STATE and one of another session DENIED. The
OK answer gives the take's handle, state, class, deadline, latest start, status and rush pending as the request
leaves them (R2, R18, R90, R128, R129, R130, R131, R132, R133). -/
def Obligations.RushTake : Prop :=
  ∀ (s : State) (c : ConsoleIx) (h : Half) (x : SessionIx),
    let u := s.settled
    let d := consoleDrop c
    u.stationReady d → (u.console c).bound = some x →
    (u.resolve h = none → ∃ t : State, exec (.rushTake c h) s = .next t ∧
      u.answeredOnly t d ⟨0x0A, .stale, false, false, false, []⟩ ∧ { t with drops := u.drops } = u) ∧
    ∀ i, u.resolve h = some i → ∃ t : State, exec (.rushTake c h) s = .next t ∧ t.slot = u.slot ∧
      let status : AnswerStatus :=
        if (u.take i).state = .certified then .guarded
        else if (u.take i).state = .returned then .wrongState
        else if (u.take i).session ≠ some x then .denied
        else .ok
      let time (n : Option Nat) : List Field := match n with
        | none => [.absent]
        | some v => [.present, .quad v]
      let answer (fs : List Field) : Answer := ⟨0x0A, status, false, false, false, fs⟩
      (status ≠ .ok → u.answeredOnly t d (answer []) ∧ { t with drops := u.drops } = u) ∧
      (status = .ok → u.rushEffect t i ∧
        u.answeredOnly t d (answer
          ([.handle (u.handleOf i), .small (t.take i).state.code,
            .small ((t.take i).cls.getD .ordinary).rank] ++
            time (t.take i).deadline ++ time (t.take i).latestStart ++
            [.small (t.take i).status.code, .flag (t.take i).rushPending])))

/-! ## Typist requests -/

/-- SIGN-ON of an OFF typist makes it IDLE from now, which triggers a pass; of any other it changes nothing
but its activity. The answer is OK with the state. SIGN-OFF of a signed-on typist: it is OFF and holds no
take; every take it held is CLOSED with its typed-to kept and stands in the queue, the pending one with its
serial kept, the current and the parked one with the next serials; its drop's queue holds the ANSWER alone,
which names the pending, the current and the parked take; the flags raised are those of the statuses that have
worsened, and no other typist changes (R64, R65, R66, R97, R105). -/
def Obligations.SignOnAndOff : Prop :=
  ∀ (s : State) (n : TypistIx),
    let u := s.settled
    let d := typistDrop n
    let r := u.typist n
    let field (i : Option TakeIx) : List Field := match i with
      | none => [.absent]
      | some k => [.present, .handle (u.handleOf k)]
    let held (i : TakeIx) : Prop :=
      r.pending.map Pending.take = some i ∨ r.current = some i ∨ r.parked = some i
    u.stationReady d →
    (r.state = .off → ∃ t : State, exec (.signOn n) s = .next t ∧
      { t.typist n with cuesDropped := r.cuesDropped, context := r.context } =
        { r with state := .idle, idleSince := some u.officeTime } ∧
      t.passDue = true ∧ (∀ m, m ≠ n → t.typist m = u.typist m) ∧
      u.answeredOnly t d ⟨0x21, .ok, false, false, false, [.small 1]⟩ ∧
      { t with typists := u.typists, drops := u.drops, passDue := u.passDue } = u) ∧
    (r.state ≠ .off → ∃ t : State, exec (.signOn n) s = .next t ∧
      { t.typist n with cuesDropped := r.cuesDropped } = r.active u.officeTime ∧
      (∀ m, m ≠ n → t.typist m = u.typist m) ∧
      u.answeredOnly t d ⟨0x21, .ok, false, false, false, [.small r.state.code]⟩ ∧
      { t with typists := u.typists, drops := u.drops } = u) ∧
    (r.state ≠ .off → ∃ t : State, exec (.signOff n) s = .next t ∧
      t.typist n =
        { r with
          state := .off, current := none, parked := none, pending := none, offerTimer := none
          context := none, idleSince := none, grace := none } ∧
      (∀ m, m ≠ n → t.typist m = u.typist m) ∧
      (∀ i, held i → (t.take i).state = .closed ∧ (t.take i).typist = none ∧
        (t.take i).typedTo = (u.take i).typedTo ∧ ∃ e ∈ t.queue, e.take = i) ∧
      u.givesUp t r u.serialCounter ∧ t.serialCounter = serialAfter u.serialCounter r.serials ∧
      (∀ i, ¬held i → t.take i = u.take i) ∧ u.raisesWorsened t ∧
      t.drop d = { u.drop d with out := [.answer ⟨0x22, .ok, false, false, false,
        field (r.pending.map Pending.take) ++ field r.current ++ field r.parked⟩] } ∧
      (∀ e, e ≠ d → t.drop e = u.drop e) ∧
      { t with
        typists := u.typists, takes := u.takes, drops := u.drops, events := u.events,
        queue := u.queue, serialCounter := u.serialCounter, passDue := u.passDue } = u)

/-- CHECKPOINT of the typist's current take: typed-to rises to the value given, clamped to the length, and
never falls. A checkpoint that raises it by 300 tenths or more beyond the sample base takes a ratio sample:
the new ratio is a quarter of three times the old one plus the sample plus 2, the sample being work seconds ×
160 over the advance, clamped to 16..255; the base becomes typed-to and the work seconds 0. A checkpoint of
less leaves the ratio. A raised typed-to gives the take a new latest start by the ratio it leaves, with its
status and event, and a changed ratio gives the parked take one too. Nothing else of the typist's record
changes but the count of a CUE that makes room for the ANSWER (R13, R72, R75, R94, R95, R97, R100, R102; log
entries 20 and 21). -/
def Obligations.Checkpoint : Prop :=
  ∀ (s : State) (n : TypistIx) (h p : Half) (i : TakeIx) (c : Context),
    let u := s.settled
    let d := typistDrop n
    let goal := min (u.take i).length p.toNat
    let advance := goal - c.base
    let sample := max 16 (min 255 (c.work * 160 / advance))
    let ratio := if 300 ≤ advance then (3 * (u.typist n).ratio + sample + 2) / 4 else (u.typist n).ratio
    let found (k : Take) (typed : Nat) : Take :=
      let start := k.deadline.map (· - workEstimate (k.length - typed) ratio)
      { k with
        typedTo := typed, latestStart := start, status := statusAt u.officeTime u.params.margin start }
    u.stationReady d → (u.typist n).state ≠ .off → u.resolve h = some i →
    (u.typist n).current = some i → (u.typist n).context = some c →
    ∃ t : State, exec (.checkpoint n h p) s = .next t ∧
      (t.take i).typedTo = max (u.take i).typedTo goal ∧
      (t.take i).length = (u.take i).length ∧ (t.take i).state = (u.take i).state ∧
      ((u.take i).typedTo < goal → 300 ≤ advance →
        (t.typist n).ratio = (3 * (u.typist n).ratio + sample + 2) / 4 ∧
        (t.typist n).context =
          some { c with base := goal, work := 0, lastActivity := u.officeTime }) ∧
      ((goal ≤ (u.take i).typedTo ∨ advance < 300) → (t.typist n).ratio = (u.typist n).ratio ∧
        (t.typist n).context = some { c with lastActivity := u.officeTime }) ∧
      t.typist n =
        { u.typist n with
          ratio := (t.typist n).ratio, context := (t.typist n).context
          cuesDropped :=
            if (u.drop d).out.length < 4 then (u.typist n).cuesDropped
            else min 255 ((u.typist n).cuesDropped + 1) } ∧
      u.answeredOnly t d ⟨0x23, .ok, decide ((u.take i).length < p.toNat), false, false,
        if goal ≤ (u.take i).typedTo then [.half (u.take i).typedTo]
        else [.half goal, .small (t.typist n).ratio]⟩ ∧
      (∀ j, j ≠ i → (u.typist n).parked ≠ some j → t.take j = u.take j) ∧
      (goal ≤ (u.take i).typedTo → t.takes = u.takes ∧ t.events = u.events) ∧
      ((u.take i).typedTo < goal → (u.take i).state = .typing → (u.take i).typist = some n →
        t.take i = found (u.take i) goal ∧
        ∀ j, j ≠ i → (u.typist n).parked = some j → (u.take j).state = .parked →
          (u.take j).typist = some n →
          t.take j = (if (t.typist n).ratio = (u.typist n).ratio then u.take j
            else found (u.take j) (u.take j).typedTo)) ∧
      u.raisesWorsened t ∧
      (∀ m, m ≠ n → t.typist m = u.typist m) ∧
      { t with takes := u.takes, typists := u.typists, drops := u.drops, events := u.events } = u

/-- QUERY of the typist's current take at an offset, which is the position where none is given, clamped to the
length with CLAMPED. With no identical mark standing and room to store it, an OPEN QUERY mark of the typist's
own stands in the list there under the lowest free identifier, which is answered, at the level in force, the
open-query count rises by one, and QUERY-RAISED is raised; the typist's cursor rises by one where the mark
stands at or below it. With an identical mark standing the first of the list is answered and nothing is stored
or raised. Without room the answer is FULL, the loss is counted and MARK-LOST is raised. A label that is refused
is answered UNKNOWN. All the other marks stand as they were, and the request is activity (R42, R43, R44, R45,
R46, R47, R51, R56, R58, R69, R76; log entries 12, 14 and 29). -/
def Obligations.RaiseQuery : Prop :=
  (∀ (s : State) (n : TypistIx) (h : Half) (offset : Option Half) (speaker : Option Byte)
    (label : Option Text) (i : TakeIx),
    let u := s.settled
    u.stationReady (typistDrop n) → (u.typist n).state ≠ .off → u.resolve h = some i →
    (u.typist n).current = some i → labelIntake label = none →
    ∃ t : State, exec (.raiseQuery n h offset speaker label) s = .next t ∧
      u.answeredOnly t (typistDrop n) ⟨0x24, .unknown, false, false, false, []⟩ ∧
      { t.typist n with cuesDropped := (u.typist n).cuesDropped } = (u.typist n).active u.officeTime ∧
      (∀ m, m ≠ n → t.typist m = u.typist m) ∧
      { t with typists := u.typists, drops := u.drops } = u) ∧
  ∀ (s : State) (n : TypistIx) (h : Half) (offset : Option Half) (speaker : Option Byte)
    (label kept : Option Text) (cut : Bool) (i : TakeIx) (k : Context),
    let u := s.settled
    let d := typistDrop n
    let r := u.typist n
    let list := (u.take i).marks
    let given := match offset with
      | none => k.position
      | some o => o.toNat
    let place := min (u.take i).length given
    let code := (speaker.bind (fun b => if b.toNat = 0 then none else some (min 254 b.toNat)))
    let clamped := cut || decide (∃ b, speaker = some b ∧ 254 < b.toNat) ||
      decide (offset ≠ none ∧ (u.take i).length < given)
    let same (m : Mark) : Bool := decide (m.kind = .query ∧ m.offset = place ∧ m.speaker = code ∧
      m.label = kept ∧ m.source = .typist n)
    u.stationReady d → r.state ≠ .off → u.resolve h = some i → r.current = some i →
    r.context = some k → labelIntake label = some (kept, cut) →
    ∃ t : State, exec (.raiseQuery n h offset speaker label) s = .next t ∧
      (∀ j, j ≠ i → t.take j = u.take j) ∧
      (∀ m, m ≠ n → (u.take i).typist ≠ some m → t.typist m = u.typist m) ∧
      { t with takes := u.takes, typists := u.typists, drops := u.drops, events := u.events } = u ∧
      (∀ m, list.find? same = some m → t.takes = u.takes ∧ t.events = u.events ∧
        { t.typist n with cuesDropped := r.cuesDropped } = r.active u.officeTime ∧
        (∀ m, m ≠ n → t.typist m = u.typist m) ∧
        u.answeredOnly t d ⟨0x24, .ok, clamped, false, false, [.half m.id.val, .half place]⟩) ∧
      (∀ id, list.find? same = none → u.hasRoom (u.take i) .query = true → u.lowestFree = some id →
        (∃ before, before = list.takeWhile (fun a => decide (a.offset ≤ place)) ∧
          insertedBehind
            { id := id, offset := place, kind := .query, speaker := code, label := kept
              level := u.levelBehind i before, source := .typist n, query := some .raised
              unverified := false }
            before list (t.take i).marks ∧
          ((u.take i).state = .typing → (u.take i).typist = some n →
            { t.typist n with cuesDropped := r.cuesDropped } =
              { r with context := some { k with
                lastActivity := u.officeTime
                cursor := if before.length ≤ k.cursor then k.cursor + 1 else k.cursor } } ∧
            t.take i = { u.take i with
              marks := (t.take i).marks, openQueries := min 255 ((u.take i).openQueries + 1) })) ∧
        { t.take i with
          marks := list, openQueries := (u.take i).openQueries, package := (u.take i).package } =
          u.take i ∧
        (t.take i).openQueries = min 255 ((u.take i).openQueries + 1) ∧
        t.events = withFlag u.events .queryRaised ∧
        u.answeredOnly t d ⟨0x24, .ok, clamped, false, false, [.half id.val, .half place]⟩) ∧
      (list.find? same = none → u.hasRoom (u.take i) .query = false →
        t.take i = { u.take i with marksLost := min 255 ((u.take i).marksLost + 1) } ∧
        t.events = withFlag u.events .markLost ∧
        { t.typist n with cuesDropped := r.cuesDropped } = r.active u.officeTime ∧
        (∀ m, m ≠ n → t.typist m = u.typist m) ∧
        u.answeredOnly t d ⟨0x24, .full, clamped, false, false, []⟩)

/-- DONE of the typist's current take: typed-to becomes the length, the take is RETURNED with its typist,
serial and deadline kept, no latest start and status NONE, and RETURNED is raised; an advance of 300 tenths
or more beyond the sample base moves the ratio; the answer is the handle and the ratio. RELEASE of it: the
take is CLOSED with its typed-to kept, a new serial and no typist, and no sample is taken. After either the
typist goes on: OFFERED with a pending SWITCH, WORKING on a parked take again, with a latest start by the
ratio that the DONE leaves, or IDLE, which alone triggers a pass of a DONE; and its drop's queue has lost
the CUEs of the take that left and holds the ANSWER with, behind it, the RESUME of a parked take; a hand-off
message that waited unsent gives way to that RESUME (R11, R12, R72, R77, R78, R79, R100, R101, R116, R122,
R153; log entries 17 and 20). -/
def Obligations.DoneAndRelease : Prop :=
  ∀ (s : State) (n : TypistIx) (h : Half) (i : TakeIx) (c : Context),
    let u := s.settled
    let d := typistDrop n
    let r := u.typist n
    let advance := (u.take i).length - c.base
    let sample := max 16 (min 255 (c.work * 160 / advance))
    let told (t : State) (a : Answer) : Prop :=
      let queue := outWith (.answer a) (outLeaving (u.handleOf i) (u.drop d).out)
      (r.state = .switching ∨ r.parked = none → (t.drop d).out = queue) ∧
      ∀ p x, r.state ≠ .switching → r.parked = some p → (u.take p).package = some x →
        (t.drop d).out = outFollowing (x.resume (u.handleOf p)) queue
    u.stationReady d → r.state ≠ .off → u.resolve h = some i → r.current = some i →
    r.parked ≠ some i → r.context = some c →
    (∃ t : State, exec (.doneTake n h) s = .next t ∧
      t.take i =
        { u.take i with
          state := .returned, typedTo := (u.take i).length, latestStart := none
          status := .noStatus } ∧
      (u.holdLaw → ∀ e, t.flagSet e = true ↔ u.flagSet e = true ∨ e = .returned ∨
        (∃ p, p ≠ i ∧ worsened (u.take p).status (t.take p).status = some e) ∨
        (t.typist n).ratio ≠ r.ratio ∧ worsened (u.take i).status
          (statusAt u.officeTime u.params.margin (u.take i).deadline) = some e) ∧
      t.flagSet .returned = true ∧ u.nextAfterCurrent t n ∧
      (r.state = .switching ∨ r.parked ≠ none → t.passDue = u.passDue) ∧
      (t.typist n).ratio = (if 300 ≤ advance then (3 * r.ratio + sample + 2) / 4 else r.ratio) ∧
      t.answerAt d = some ⟨0x25, .ok, false, false, false,
        [.handle (u.handleOf i), .small (t.typist n).ratio]⟩ ∧
      told t ⟨0x25, .ok, false, false, false, [.handle (u.handleOf i), .small (t.typist n).ratio]⟩ ∧
      (∀ g ∈ (t.drop d).out, g.cues (u.handleOf i) = false) ∧ (∀ e, e ≠ d → t.drop e = u.drop e) ∧
      (∀ j, j ≠ i → r.parked ≠ some j → t.take j = u.take j) ∧
      (∀ m, m ≠ n → t.typist m = u.typist m) ∧
      { t with
        takes := u.takes, typists := u.typists, drops := u.drops, events := u.events,
        passDue := u.passDue } = u) ∧
    ∃ t : State, exec (.releaseTake n h) s = .next t ∧
      t.take i = u.givenBack i u.serialCounter ∧
      t.serialCounter = (u.serialCounter + 1) % 4294967296 ∧
      (∃ e ∈ t.queue, e.take = i ∧ e.serial = u.serialCounter) ∧
      t.passDue = true ∧ u.raisesWorsened t ∧ u.nextAfterCurrent t n ∧ (t.typist n).ratio = r.ratio ∧
      t.answerAt d = some ⟨0x26, .ok, false, false, false, [.handle (u.handleOf i)]⟩ ∧
      told t ⟨0x26, .ok, false, false, false, [.handle (u.handleOf i)]⟩ ∧
      (∀ g ∈ (t.drop d).out, g.cues (u.handleOf i) = false) ∧ (∀ e, e ≠ d → t.drop e = u.drop e) ∧
      (∀ j, j ≠ i → r.parked ≠ some j → t.take j = u.take j) ∧
      (∀ m, m ≠ n → t.typist m = u.typist m) ∧
      { t with
        takes := u.takes, typists := u.typists, drops := u.drops, events := u.events,
        queue := u.queue, serialCounter := u.serialCounter, passDue := u.passDue } = u

/-- ACCEPT of a pending take: the take is TYPING with an empty exclusion list and the typist's current one,
with a fresh context at its typed-to and a latest start by the typist's ratio, with its status and event;
the offer timer and the pending take are absent and the typist is WORKING. An accepted SWITCH parks the take
that was current, with its context saved whole, and its CUEs leave the drop's queue. DECLINE of a pending
take: the take is CLOSED with its serial kept and the typist last in its exclusion list, the oldest of four
dropped first; the typist is WORKING with its current take or IDLE from now; offers-missed is as it was. A
take that is not pending is answered EXPIRED by DECLINE, and by ACCEPT unless it is the typist's current
take in TYPING: ACCEPT of that is answered OK with the take as it stands; and a stale handle is answered STALE
by both. None of these changes anything but the typist's activity, and the CUE that makes room. That an OFFER
or SWITCH of the take that still waits unsent stays in the queue, and that a repeated ACCEPT of a take that was
accepted as a SWITCH is answered with the five fields of R110, are the model's choices (R2, R7, R8, R9, R67,
R68, R69, R72, R94, R97, R110, R111, R113, R119, R120; log entries 31 and 32). -/
def Obligations.AcceptAndDecline : Prop :=
  (∀ (s : State) (n : TypistIx) (h : Half) (i : Instr) (code : Nat),
    let u := s.settled
    (i = .acceptOffer n h ∧ code = 0x28 ∨ i = .declineOffer n h ∧ code = 0x29) →
    u.stationReady (typistDrop n) → (u.typist n).state ≠ .off → u.resolve h = none →
    ∃ t : State, exec i s = .next t ∧
      u.answeredOnly t (typistDrop n) ⟨code, .stale, false, false, false, []⟩ ∧
      { t.typist n with cuesDropped := (u.typist n).cuesDropped } =
        (u.typist n).active u.officeTime ∧
      (∀ m, m ≠ n → t.typist m = u.typist m) ∧
      { t with typists := u.typists, drops := u.drops } = u) ∧
  ∀ (s : State) (n : TypistIx) (h : Half) (i : TakeIx),
    let u := s.settled
    let d := typistDrop n
    let r := u.typist n
    let typed := (u.take i).typedTo
    let cursor := ((u.take i).marks.takeWhile (fun m => decide (m.offset < typed))).length
    u.stationReady d → r.state ≠ .off → u.resolve h = some i →
    (∀ p, r.pending = some p → p.take = i → r.current ≠ some i →
      ∃ t : State, exec (.acceptOffer n h) s = .next t ∧
        t.take i =
          { u.take i with
            state := .typing, exclusion := [], latestStart := (t.take i).latestStart
            status := (t.take i).status } ∧
        { t.typist n with cuesDropped := r.cuesDropped, parked := r.parked } =
          { r with
            state := .working, current := some i, pending := none, offerTimer := none
            context := some ⟨typed, cursor, 0, typed, u.officeTime, 0⟩ } ∧
        ((u.take i).typist = some n → (t.take i).latestStart = (u.take i).deadline.map
          (· - workEstimate ((u.take i).length - typed) r.ratio)) ∧
        (t.take i).status = statusAt u.officeTime u.params.margin (t.take i).latestStart ∧
        u.raisesWorsened t ∧
        (r.current = none →
          (t.typist n).parked = r.parked ∧ (∀ j, j ≠ i → t.take j = u.take j) ∧
          u.answeredOnly t d ⟨0x28, .ok, false, false, false,
            [.handle (u.handleOf i), .half (u.take i).length, .half typed, .half typed,
              .small cursor]⟩) ∧
        (∀ o k, r.current = some o → r.context = some k → p.kind = .switch →
          (t.typist n).parked = some o ∧
          t.take o = { u.take o with
            state := .parked, package := some ⟨k.position, k.cursor, k.work, k.base, k.notes⟩ } ∧
          (∀ j, j ≠ i → j ≠ o → t.take j = u.take j) ∧
          (let answer : Answer := ⟨0x28, .ok, false, false, false,
            [.handle (u.handleOf i), .half typed, .half typed, .small cursor, .handle (u.handleOf o)]⟩
          t.drop d =
            { u.drop d with out := outWith (.answer answer) (outLeaving (u.handleOf o) (u.drop d).out) }) ∧
          ∀ e, e ≠ d → t.drop e = u.drop e) ∧
        (∀ m, m ≠ n → t.typist m = u.typist m) ∧
        { t with takes := u.takes, typists := u.typists, drops := u.drops, events := u.events } = u) ∧
    (r.pending.map Pending.take ≠ some i →
      let unchanged (t : State) : Prop :=
        { t.typist n with cuesDropped := r.cuesDropped } = r.active u.officeTime ∧
        (∀ m, m ≠ n → t.typist m = u.typist m) ∧
        { t with typists := u.typists, drops := u.drops } = u
      (∃ t : State, exec (.declineOffer n h) s = .next t ∧ unchanged t ∧
        u.answeredOnly t d ⟨0x29, .expired, false, false, false, []⟩) ∧
      ∃ t : State, exec (.acceptOffer n h) s = .next t ∧ unchanged t ∧
        (¬(r.current = some i ∧ (u.take i).state = .typing) →
          u.answeredOnly t d ⟨0x28, .expired, false, false, false, []⟩) ∧
        (∀ k, r.current = some i → (u.take i).state = .typing → r.context = some k →
          u.answeredOnly t d ⟨0x28, .ok, false, false, false,
            [.handle (u.handleOf i), .half (u.take i).length, .half typed, .half k.position,
              .small k.cursor]⟩)) ∧
    (r.pending.map Pending.take = some i → ∃ t : State, exec (.declineOffer n h) s = .next t ∧
      t.take i =
        { u.take i with
          state := .closed, typist := none
          exclusion := (u.take i).exclusion.drop ((u.take i).exclusion.length - 3) ++ [n] } ∧
      (∀ j, j ≠ i → t.take j = u.take j) ∧ (∃ e ∈ t.queue, e.take = i) ∧ t.passDue = true ∧
      (t.typist n).pending = none ∧ (t.typist n).offerTimer = none ∧
      (t.typist n).offersMissed = r.offersMissed ∧ (t.typist n).current = r.current ∧
      (r.current ≠ none → (t.typist n).state = .working) ∧
      (r.current = none → (t.typist n).state = .idle ∧ (t.typist n).idleSince = some u.officeTime) ∧
      (∀ m, m ≠ n → t.typist m = u.typist m) ∧
      u.answeredOnly t d ⟨0x29, .ok, false, false, false, [.handle (u.handleOf i)]⟩ ∧
      { t with
        takes := u.takes, typists := u.typists, drops := u.drops, queue := u.queue,
        passDue := u.passDue } = u)

/-! ## Laws that every step keeps -/

/-- Every step keeps the law of the link: at every drop at most 4 messages, one ANSWER and one hand-off
message, the control messages ahead of the CUEs, ANSWERs alone at a console; a miss count of 0..2, which is 0
with an empty queue unless the drop is PRESENT, and a roll-call count exactly while it is ABSENT (R145, R150,
R153). -/
def Obligations.LinkLawIsKept : Prop :=
  ∀ s t : State, s.linkLaw → (∀ d, (s.drop d).law) → step s = .next t →
    t.linkLaw ∧ ∀ d, (t.drop d).law

/-- Every step keeps every typist's ratio within 16..255 and the clearance of its record equal to the
clearance unit's, every parameter within its range, and every console that is bound bound to a BOUND or
RECORDING session that names it. Who holds what being as it should (`HoldLawIsKept`), every step keeps the law
of every take record (typed-to within the length, a latest start exactly in CLOSED, OFFERED, TYPING and
PARKED, the marks in offset order, at most 255, within the length), no mark identifier standing twice, the
hand-off queue in order with its takes' keys, and no held take above its holder's clearance or beyond its
qualifications; all of it holds after reset (R13, R14, R27, R28, R42, R45, R94, R102, R104, R134, R136,
R161). -/
def Obligations.RecordLawsAreKept : Prop :=
  (State.reset.directoryLaw ∧ State.reset.orderLaw ∧ State.reset.coverLaw) ∧
  (∀ s t : State, s.rosterLaw → s.params.inRange → s.bindingLaw → step s = .next t →
    t.rosterLaw ∧ t.params.inRange ∧ t.bindingLaw) ∧
  ∀ s t : State, s.holdLaw → s.bindingLaw → s.rosterLaw → s.directoryLaw → s.orderLaw → s.coverLaw →
    step s = .next t → t.directoryLaw ∧ t.orderLaw ∧ t.coverLaw

/-- Every step keeps who holds what: an OFFERED, TYPING or PARKED take is its typist's pending, current or
parked take and no other's, a typist record holds what its state says, the hand-off queue holds exactly the
CLOSED takes, each once, and an OPEN take is the open take of its RECORDING session; after reset nothing is
held. With this, every step keeps the context law: exactly the PARKED takes hold an exchange package, and
exactly the typists with a current take hold a working context (R1, R9, R10, R25, R64, R68, R103). The
other laws hold after reset too. -/
def Obligations.HoldLawIsKept : Prop :=
  (State.reset.holdLaw ∧ State.reset.linkLaw ∧ (∀ d, (State.reset.drop d).law) ∧
    State.reset.rosterLaw ∧ State.reset.params.inRange ∧ State.reset.bindingLaw ∧
    State.reset.contextLaw) ∧
  ∀ s t : State, s.holdLaw → s.bindingLaw → step s = .next t →
    t.holdLaw ∧ (s.contextLaw → t.contextLaw)
end

