-- ==== Sys2Proof/Laws/State.lean ====
section
/-! SUPPORT. What each update of the state leaves in each field: one lemma for each field and update. -/

namespace Sys2Proof.Machine

/-! ### raise -/

@[simp] theorem State.raise_officeTime (s : State) (e : Event) : (s.raise e).officeTime = s.officeTime := rfl
@[simp] theorem State.raise_takes (s : State) (e : Event) : (s.raise e).takes = s.takes := rfl
@[simp] theorem State.raise_sessions (s : State) (e : Event) : (s.raise e).sessions = s.sessions := rfl
@[simp] theorem State.raise_consoles (s : State) (e : Event) : (s.raise e).consoles = s.consoles := rfl
@[simp] theorem State.raise_typists (s : State) (e : Event) : (s.raise e).typists = s.typists := rfl
@[simp] theorem State.raise_drops (s : State) (e : Event) : (s.raise e).drops = s.drops := rfl
@[simp] theorem State.raise_clearances (s : State) (e : Event) : (s.raise e).clearances = s.clearances := rfl
@[simp] theorem State.raise_clearanceLock (s : State) (e : Event) : (s.raise e).clearanceLock = s.clearanceLock := rfl
@[simp] theorem State.raise_auditFailure (s : State) (e : Event) : (s.raise e).auditFailure = s.auditFailure := rfl
@[simp] theorem State.raise_auditCountdown (s : State) (e : Event) : (s.raise e).auditCountdown = s.auditCountdown := rfl
@[simp] theorem State.raise_lastAuditSum (s : State) (e : Event) : (s.raise e).lastAuditSum = s.lastAuditSum := rfl
@[simp] theorem State.raise_queue (s : State) (e : Event) : (s.raise e).queue = s.queue := rfl
@[simp] theorem State.raise_serialCounter (s : State) (e : Event) : (s.raise e).serialCounter = s.serialCounter := rfl
@[simp] theorem State.raise_params (s : State) (e : Event) : (s.raise e).params = s.params := rfl
@[simp] theorem State.raise_events (s : State) (e : Event) : (s.raise e).events = withFlag s.events e := rfl
@[simp] theorem State.raise_masks (s : State) (e : Event) : (s.raise e).masks = s.masks := rfl
@[simp] theorem State.raise_slot (s : State) (e : Event) : (s.raise e).slot = s.slot := rfl
@[simp] theorem State.raise_round (s : State) (e : Event) : (s.raise e).round = s.round := rfl
@[simp] theorem State.raise_inFlight (s : State) (e : Event) : (s.raise e).inFlight = s.inFlight := rfl
@[simp] theorem State.raise_ltx (s : State) (e : Event) : (s.raise e).ltx = s.ltx := rfl
@[simp] theorem State.raise_miso (s : State) (e : Event) : (s.raise e).miso = s.miso := rfl
@[simp] theorem State.raise_passDue (s : State) (e : Event) : (s.raise e).passDue = s.passDue := rfl
@[simp] theorem State.raise_pending (s : State) (e : Event) : (s.raise e).pending = s.pending := rfl
@[simp] theorem State.raise_take (s : State) (e : Event) (i : TakeIx) : (s.raise e).take i = s.take i := rfl
@[simp] theorem State.raise_session (s : State) (e : Event) (x : SessionIx) : (s.raise e).session x = s.session x := rfl
@[simp] theorem State.raise_console (s : State) (e : Event) (c : ConsoleIx) : (s.raise e).console c = s.console c := rfl
@[simp] theorem State.raise_typist (s : State) (e : Event) (t : TypistIx) : (s.raise e).typist t = s.typist t := rfl
@[simp] theorem State.raise_drop (s : State) (e : Event) (d : DropIx) : (s.raise e).drop d = s.drop d := rfl
@[simp] theorem State.raise_clearance (s : State) (e : Event) (d : DropIx) : (s.raise e).clearance d = s.clearance d := rfl

/-! ### raiseSome -/

@[simp] theorem State.raiseSome_officeTime (s : State) (e : Option Event) : (s.raiseSome e).officeTime = s.officeTime := by cases e <;> rfl
@[simp] theorem State.raiseSome_takes (s : State) (e : Option Event) : (s.raiseSome e).takes = s.takes := by cases e <;> rfl
@[simp] theorem State.raiseSome_sessions (s : State) (e : Option Event) : (s.raiseSome e).sessions = s.sessions := by cases e <;> rfl
@[simp] theorem State.raiseSome_consoles (s : State) (e : Option Event) : (s.raiseSome e).consoles = s.consoles := by cases e <;> rfl
@[simp] theorem State.raiseSome_typists (s : State) (e : Option Event) : (s.raiseSome e).typists = s.typists := by cases e <;> rfl
@[simp] theorem State.raiseSome_drops (s : State) (e : Option Event) : (s.raiseSome e).drops = s.drops := by cases e <;> rfl
@[simp] theorem State.raiseSome_clearances (s : State) (e : Option Event) : (s.raiseSome e).clearances = s.clearances := by cases e <;> rfl
@[simp] theorem State.raiseSome_clearanceLock (s : State) (e : Option Event) : (s.raiseSome e).clearanceLock = s.clearanceLock := by cases e <;> rfl
@[simp] theorem State.raiseSome_auditFailure (s : State) (e : Option Event) : (s.raiseSome e).auditFailure = s.auditFailure := by cases e <;> rfl
@[simp] theorem State.raiseSome_auditCountdown (s : State) (e : Option Event) : (s.raiseSome e).auditCountdown = s.auditCountdown := by cases e <;> rfl
@[simp] theorem State.raiseSome_lastAuditSum (s : State) (e : Option Event) : (s.raiseSome e).lastAuditSum = s.lastAuditSum := by cases e <;> rfl
@[simp] theorem State.raiseSome_queue (s : State) (e : Option Event) : (s.raiseSome e).queue = s.queue := by cases e <;> rfl
@[simp] theorem State.raiseSome_serialCounter (s : State) (e : Option Event) : (s.raiseSome e).serialCounter = s.serialCounter := by cases e <;> rfl
@[simp] theorem State.raiseSome_params (s : State) (e : Option Event) : (s.raiseSome e).params = s.params := by cases e <;> rfl
@[simp] theorem State.raiseSome_masks (s : State) (e : Option Event) : (s.raiseSome e).masks = s.masks := by cases e <;> rfl
@[simp] theorem State.raiseSome_slot (s : State) (e : Option Event) : (s.raiseSome e).slot = s.slot := by cases e <;> rfl
@[simp] theorem State.raiseSome_round (s : State) (e : Option Event) : (s.raiseSome e).round = s.round := by cases e <;> rfl
@[simp] theorem State.raiseSome_inFlight (s : State) (e : Option Event) : (s.raiseSome e).inFlight = s.inFlight := by cases e <;> rfl
@[simp] theorem State.raiseSome_ltx (s : State) (e : Option Event) : (s.raiseSome e).ltx = s.ltx := by cases e <;> rfl
@[simp] theorem State.raiseSome_miso (s : State) (e : Option Event) : (s.raiseSome e).miso = s.miso := by cases e <;> rfl
@[simp] theorem State.raiseSome_passDue (s : State) (e : Option Event) : (s.raiseSome e).passDue = s.passDue := by cases e <;> rfl
@[simp] theorem State.raiseSome_pending (s : State) (e : Option Event) : (s.raiseSome e).pending = s.pending := by cases e <;> rfl
@[simp] theorem State.raiseSome_take (s : State) (e : Option Event) (i : TakeIx) : (s.raiseSome e).take i = s.take i := by cases e <;> rfl
@[simp] theorem State.raiseSome_session (s : State) (e : Option Event) (x : SessionIx) : (s.raiseSome e).session x = s.session x := by cases e <;> rfl
@[simp] theorem State.raiseSome_console (s : State) (e : Option Event) (c : ConsoleIx) : (s.raiseSome e).console c = s.console c := by cases e <;> rfl
@[simp] theorem State.raiseSome_typist (s : State) (e : Option Event) (t : TypistIx) : (s.raiseSome e).typist t = s.typist t := by cases e <;> rfl
@[simp] theorem State.raiseSome_drop (s : State) (e : Option Event) (d : DropIx) : (s.raiseSome e).drop d = s.drop d := by cases e <;> rfl
@[simp] theorem State.raiseSome_clearance (s : State) (e : Option Event) (d : DropIx) : (s.raiseSome e).clearance d = s.clearance d := by cases e <;> rfl

/-! ### setTake -/

@[simp] theorem State.setTake_officeTime (s : State) (i : TakeIx) (k : Take) : (s.setTake i k).officeTime = s.officeTime := rfl
@[simp] theorem State.setTake_takes (s : State) (i : TakeIx) (k : Take) : (s.setTake i k).takes = s.takes.set i.val k i.isLt := rfl
@[simp] theorem State.setTake_sessions (s : State) (i : TakeIx) (k : Take) : (s.setTake i k).sessions = s.sessions := rfl
@[simp] theorem State.setTake_consoles (s : State) (i : TakeIx) (k : Take) : (s.setTake i k).consoles = s.consoles := rfl
@[simp] theorem State.setTake_typists (s : State) (i : TakeIx) (k : Take) : (s.setTake i k).typists = s.typists := rfl
@[simp] theorem State.setTake_drops (s : State) (i : TakeIx) (k : Take) : (s.setTake i k).drops = s.drops := rfl
@[simp] theorem State.setTake_clearances (s : State) (i : TakeIx) (k : Take) : (s.setTake i k).clearances = s.clearances := rfl
@[simp] theorem State.setTake_clearanceLock (s : State) (i : TakeIx) (k : Take) : (s.setTake i k).clearanceLock = s.clearanceLock := rfl
@[simp] theorem State.setTake_auditFailure (s : State) (i : TakeIx) (k : Take) : (s.setTake i k).auditFailure = s.auditFailure := rfl
@[simp] theorem State.setTake_auditCountdown (s : State) (i : TakeIx) (k : Take) : (s.setTake i k).auditCountdown = s.auditCountdown := rfl
@[simp] theorem State.setTake_lastAuditSum (s : State) (i : TakeIx) (k : Take) : (s.setTake i k).lastAuditSum = s.lastAuditSum := rfl
@[simp] theorem State.setTake_queue (s : State) (i : TakeIx) (k : Take) : (s.setTake i k).queue = s.queue := rfl
@[simp] theorem State.setTake_serialCounter (s : State) (i : TakeIx) (k : Take) : (s.setTake i k).serialCounter = s.serialCounter := rfl
@[simp] theorem State.setTake_params (s : State) (i : TakeIx) (k : Take) : (s.setTake i k).params = s.params := rfl
@[simp] theorem State.setTake_events (s : State) (i : TakeIx) (k : Take) : (s.setTake i k).events = s.events := rfl
@[simp] theorem State.setTake_masks (s : State) (i : TakeIx) (k : Take) : (s.setTake i k).masks = s.masks := rfl
@[simp] theorem State.setTake_slot (s : State) (i : TakeIx) (k : Take) : (s.setTake i k).slot = s.slot := rfl
@[simp] theorem State.setTake_round (s : State) (i : TakeIx) (k : Take) : (s.setTake i k).round = s.round := rfl
@[simp] theorem State.setTake_inFlight (s : State) (i : TakeIx) (k : Take) : (s.setTake i k).inFlight = s.inFlight := rfl
@[simp] theorem State.setTake_ltx (s : State) (i : TakeIx) (k : Take) : (s.setTake i k).ltx = s.ltx := rfl
@[simp] theorem State.setTake_miso (s : State) (i : TakeIx) (k : Take) : (s.setTake i k).miso = s.miso := rfl
@[simp] theorem State.setTake_passDue (s : State) (i : TakeIx) (k : Take) : (s.setTake i k).passDue = s.passDue := rfl
@[simp] theorem State.setTake_pending (s : State) (i : TakeIx) (k : Take) : (s.setTake i k).pending = s.pending := rfl
@[simp] theorem State.setTake_session (s : State) (i : TakeIx) (k : Take) (x : SessionIx) : (s.setTake i k).session x = s.session x := rfl
@[simp] theorem State.setTake_console (s : State) (i : TakeIx) (k : Take) (c : ConsoleIx) : (s.setTake i k).console c = s.console c := rfl
@[simp] theorem State.setTake_typist (s : State) (i : TakeIx) (k : Take) (t : TypistIx) : (s.setTake i k).typist t = s.typist t := rfl
@[simp] theorem State.setTake_drop (s : State) (i : TakeIx) (k : Take) (d : DropIx) : (s.setTake i k).drop d = s.drop d := rfl
@[simp] theorem State.setTake_clearance (s : State) (i : TakeIx) (k : Take) (d : DropIx) : (s.setTake i k).clearance d = s.clearance d := rfl

/-! ### modTake -/

@[simp] theorem State.modTake_officeTime (s : State) (i : TakeIx) (f : Take → Take) : (s.modTake i f).officeTime = s.officeTime := rfl
@[simp] theorem State.modTake_sessions (s : State) (i : TakeIx) (f : Take → Take) : (s.modTake i f).sessions = s.sessions := rfl
@[simp] theorem State.modTake_consoles (s : State) (i : TakeIx) (f : Take → Take) : (s.modTake i f).consoles = s.consoles := rfl
@[simp] theorem State.modTake_typists (s : State) (i : TakeIx) (f : Take → Take) : (s.modTake i f).typists = s.typists := rfl
@[simp] theorem State.modTake_drops (s : State) (i : TakeIx) (f : Take → Take) : (s.modTake i f).drops = s.drops := rfl
@[simp] theorem State.modTake_clearances (s : State) (i : TakeIx) (f : Take → Take) : (s.modTake i f).clearances = s.clearances := rfl
@[simp] theorem State.modTake_clearanceLock (s : State) (i : TakeIx) (f : Take → Take) : (s.modTake i f).clearanceLock = s.clearanceLock := rfl
@[simp] theorem State.modTake_auditFailure (s : State) (i : TakeIx) (f : Take → Take) : (s.modTake i f).auditFailure = s.auditFailure := rfl
@[simp] theorem State.modTake_auditCountdown (s : State) (i : TakeIx) (f : Take → Take) : (s.modTake i f).auditCountdown = s.auditCountdown := rfl
@[simp] theorem State.modTake_lastAuditSum (s : State) (i : TakeIx) (f : Take → Take) : (s.modTake i f).lastAuditSum = s.lastAuditSum := rfl
@[simp] theorem State.modTake_queue (s : State) (i : TakeIx) (f : Take → Take) : (s.modTake i f).queue = s.queue := rfl
@[simp] theorem State.modTake_serialCounter (s : State) (i : TakeIx) (f : Take → Take) : (s.modTake i f).serialCounter = s.serialCounter := rfl
@[simp] theorem State.modTake_params (s : State) (i : TakeIx) (f : Take → Take) : (s.modTake i f).params = s.params := rfl
@[simp] theorem State.modTake_events (s : State) (i : TakeIx) (f : Take → Take) : (s.modTake i f).events = s.events := rfl
@[simp] theorem State.modTake_masks (s : State) (i : TakeIx) (f : Take → Take) : (s.modTake i f).masks = s.masks := rfl
@[simp] theorem State.modTake_slot (s : State) (i : TakeIx) (f : Take → Take) : (s.modTake i f).slot = s.slot := rfl
@[simp] theorem State.modTake_round (s : State) (i : TakeIx) (f : Take → Take) : (s.modTake i f).round = s.round := rfl
@[simp] theorem State.modTake_inFlight (s : State) (i : TakeIx) (f : Take → Take) : (s.modTake i f).inFlight = s.inFlight := rfl
@[simp] theorem State.modTake_ltx (s : State) (i : TakeIx) (f : Take → Take) : (s.modTake i f).ltx = s.ltx := rfl
@[simp] theorem State.modTake_miso (s : State) (i : TakeIx) (f : Take → Take) : (s.modTake i f).miso = s.miso := rfl
@[simp] theorem State.modTake_passDue (s : State) (i : TakeIx) (f : Take → Take) : (s.modTake i f).passDue = s.passDue := rfl
@[simp] theorem State.modTake_pending (s : State) (i : TakeIx) (f : Take → Take) : (s.modTake i f).pending = s.pending := rfl
@[simp] theorem State.modTake_session (s : State) (i : TakeIx) (f : Take → Take) (x : SessionIx) : (s.modTake i f).session x = s.session x := rfl
@[simp] theorem State.modTake_console (s : State) (i : TakeIx) (f : Take → Take) (c : ConsoleIx) : (s.modTake i f).console c = s.console c := rfl
@[simp] theorem State.modTake_typist (s : State) (i : TakeIx) (f : Take → Take) (t : TypistIx) : (s.modTake i f).typist t = s.typist t := rfl
@[simp] theorem State.modTake_drop (s : State) (i : TakeIx) (f : Take → Take) (d : DropIx) : (s.modTake i f).drop d = s.drop d := rfl
@[simp] theorem State.modTake_clearance (s : State) (i : TakeIx) (f : Take → Take) (d : DropIx) : (s.modTake i f).clearance d = s.clearance d := rfl

/-! ### setSession -/

@[simp] theorem State.setSession_officeTime (s : State) (x : SessionIx) (r : Session) : (s.setSession x r).officeTime = s.officeTime := rfl
@[simp] theorem State.setSession_takes (s : State) (x : SessionIx) (r : Session) : (s.setSession x r).takes = s.takes := rfl
@[simp] theorem State.setSession_sessions (s : State) (x : SessionIx) (r : Session) : (s.setSession x r).sessions = s.sessions.set x.val r x.isLt := rfl
@[simp] theorem State.setSession_consoles (s : State) (x : SessionIx) (r : Session) : (s.setSession x r).consoles = s.consoles := rfl
@[simp] theorem State.setSession_typists (s : State) (x : SessionIx) (r : Session) : (s.setSession x r).typists = s.typists := rfl
@[simp] theorem State.setSession_drops (s : State) (x : SessionIx) (r : Session) : (s.setSession x r).drops = s.drops := rfl
@[simp] theorem State.setSession_clearances (s : State) (x : SessionIx) (r : Session) : (s.setSession x r).clearances = s.clearances := rfl
@[simp] theorem State.setSession_clearanceLock (s : State) (x : SessionIx) (r : Session) : (s.setSession x r).clearanceLock = s.clearanceLock := rfl
@[simp] theorem State.setSession_auditFailure (s : State) (x : SessionIx) (r : Session) : (s.setSession x r).auditFailure = s.auditFailure := rfl
@[simp] theorem State.setSession_auditCountdown (s : State) (x : SessionIx) (r : Session) : (s.setSession x r).auditCountdown = s.auditCountdown := rfl
@[simp] theorem State.setSession_lastAuditSum (s : State) (x : SessionIx) (r : Session) : (s.setSession x r).lastAuditSum = s.lastAuditSum := rfl
@[simp] theorem State.setSession_queue (s : State) (x : SessionIx) (r : Session) : (s.setSession x r).queue = s.queue := rfl
@[simp] theorem State.setSession_serialCounter (s : State) (x : SessionIx) (r : Session) : (s.setSession x r).serialCounter = s.serialCounter := rfl
@[simp] theorem State.setSession_params (s : State) (x : SessionIx) (r : Session) : (s.setSession x r).params = s.params := rfl
@[simp] theorem State.setSession_events (s : State) (x : SessionIx) (r : Session) : (s.setSession x r).events = s.events := rfl
@[simp] theorem State.setSession_masks (s : State) (x : SessionIx) (r : Session) : (s.setSession x r).masks = s.masks := rfl
@[simp] theorem State.setSession_slot (s : State) (x : SessionIx) (r : Session) : (s.setSession x r).slot = s.slot := rfl
@[simp] theorem State.setSession_round (s : State) (x : SessionIx) (r : Session) : (s.setSession x r).round = s.round := rfl
@[simp] theorem State.setSession_inFlight (s : State) (x : SessionIx) (r : Session) : (s.setSession x r).inFlight = s.inFlight := rfl
@[simp] theorem State.setSession_ltx (s : State) (x : SessionIx) (r : Session) : (s.setSession x r).ltx = s.ltx := rfl
@[simp] theorem State.setSession_miso (s : State) (x : SessionIx) (r : Session) : (s.setSession x r).miso = s.miso := rfl
@[simp] theorem State.setSession_passDue (s : State) (x : SessionIx) (r : Session) : (s.setSession x r).passDue = s.passDue := rfl
@[simp] theorem State.setSession_pending (s : State) (x : SessionIx) (r : Session) : (s.setSession x r).pending = s.pending := rfl
@[simp] theorem State.setSession_take (s : State) (x : SessionIx) (r : Session) (i : TakeIx) : (s.setSession x r).take i = s.take i := rfl
@[simp] theorem State.setSession_console (s : State) (x : SessionIx) (r : Session) (c : ConsoleIx) : (s.setSession x r).console c = s.console c := rfl
@[simp] theorem State.setSession_typist (s : State) (x : SessionIx) (r : Session) (t : TypistIx) : (s.setSession x r).typist t = s.typist t := rfl
@[simp] theorem State.setSession_drop (s : State) (x : SessionIx) (r : Session) (d : DropIx) : (s.setSession x r).drop d = s.drop d := rfl
@[simp] theorem State.setSession_clearance (s : State) (x : SessionIx) (r : Session) (d : DropIx) : (s.setSession x r).clearance d = s.clearance d := rfl

/-! ### modSession -/

@[simp] theorem State.modSession_officeTime (s : State) (x : SessionIx) (f : Session → Session) : (s.modSession x f).officeTime = s.officeTime := rfl
@[simp] theorem State.modSession_takes (s : State) (x : SessionIx) (f : Session → Session) : (s.modSession x f).takes = s.takes := rfl
@[simp] theorem State.modSession_consoles (s : State) (x : SessionIx) (f : Session → Session) : (s.modSession x f).consoles = s.consoles := rfl
@[simp] theorem State.modSession_typists (s : State) (x : SessionIx) (f : Session → Session) : (s.modSession x f).typists = s.typists := rfl
@[simp] theorem State.modSession_drops (s : State) (x : SessionIx) (f : Session → Session) : (s.modSession x f).drops = s.drops := rfl
@[simp] theorem State.modSession_clearances (s : State) (x : SessionIx) (f : Session → Session) : (s.modSession x f).clearances = s.clearances := rfl
@[simp] theorem State.modSession_clearanceLock (s : State) (x : SessionIx) (f : Session → Session) : (s.modSession x f).clearanceLock = s.clearanceLock := rfl
@[simp] theorem State.modSession_auditFailure (s : State) (x : SessionIx) (f : Session → Session) : (s.modSession x f).auditFailure = s.auditFailure := rfl
@[simp] theorem State.modSession_auditCountdown (s : State) (x : SessionIx) (f : Session → Session) : (s.modSession x f).auditCountdown = s.auditCountdown := rfl
@[simp] theorem State.modSession_lastAuditSum (s : State) (x : SessionIx) (f : Session → Session) : (s.modSession x f).lastAuditSum = s.lastAuditSum := rfl
@[simp] theorem State.modSession_queue (s : State) (x : SessionIx) (f : Session → Session) : (s.modSession x f).queue = s.queue := rfl
@[simp] theorem State.modSession_serialCounter (s : State) (x : SessionIx) (f : Session → Session) : (s.modSession x f).serialCounter = s.serialCounter := rfl
@[simp] theorem State.modSession_params (s : State) (x : SessionIx) (f : Session → Session) : (s.modSession x f).params = s.params := rfl
@[simp] theorem State.modSession_events (s : State) (x : SessionIx) (f : Session → Session) : (s.modSession x f).events = s.events := rfl
@[simp] theorem State.modSession_masks (s : State) (x : SessionIx) (f : Session → Session) : (s.modSession x f).masks = s.masks := rfl
@[simp] theorem State.modSession_slot (s : State) (x : SessionIx) (f : Session → Session) : (s.modSession x f).slot = s.slot := rfl
@[simp] theorem State.modSession_round (s : State) (x : SessionIx) (f : Session → Session) : (s.modSession x f).round = s.round := rfl
@[simp] theorem State.modSession_inFlight (s : State) (x : SessionIx) (f : Session → Session) : (s.modSession x f).inFlight = s.inFlight := rfl
@[simp] theorem State.modSession_ltx (s : State) (x : SessionIx) (f : Session → Session) : (s.modSession x f).ltx = s.ltx := rfl
@[simp] theorem State.modSession_miso (s : State) (x : SessionIx) (f : Session → Session) : (s.modSession x f).miso = s.miso := rfl
@[simp] theorem State.modSession_passDue (s : State) (x : SessionIx) (f : Session → Session) : (s.modSession x f).passDue = s.passDue := rfl
@[simp] theorem State.modSession_pending (s : State) (x : SessionIx) (f : Session → Session) : (s.modSession x f).pending = s.pending := rfl
@[simp] theorem State.modSession_take (s : State) (x : SessionIx) (f : Session → Session) (i : TakeIx) : (s.modSession x f).take i = s.take i := rfl
@[simp] theorem State.modSession_console (s : State) (x : SessionIx) (f : Session → Session) (c : ConsoleIx) : (s.modSession x f).console c = s.console c := rfl
@[simp] theorem State.modSession_typist (s : State) (x : SessionIx) (f : Session → Session) (t : TypistIx) : (s.modSession x f).typist t = s.typist t := rfl
@[simp] theorem State.modSession_drop (s : State) (x : SessionIx) (f : Session → Session) (d : DropIx) : (s.modSession x f).drop d = s.drop d := rfl
@[simp] theorem State.modSession_clearance (s : State) (x : SessionIx) (f : Session → Session) (d : DropIx) : (s.modSession x f).clearance d = s.clearance d := rfl

/-! ### setConsole -/

@[simp] theorem State.setConsole_officeTime (s : State) (c : ConsoleIx) (r : Console) : (s.setConsole c r).officeTime = s.officeTime := rfl
@[simp] theorem State.setConsole_takes (s : State) (c : ConsoleIx) (r : Console) : (s.setConsole c r).takes = s.takes := rfl
@[simp] theorem State.setConsole_sessions (s : State) (c : ConsoleIx) (r : Console) : (s.setConsole c r).sessions = s.sessions := rfl
@[simp] theorem State.setConsole_consoles (s : State) (c : ConsoleIx) (r : Console) : (s.setConsole c r).consoles = s.consoles.set c.val r c.isLt := rfl
@[simp] theorem State.setConsole_typists (s : State) (c : ConsoleIx) (r : Console) : (s.setConsole c r).typists = s.typists := rfl
@[simp] theorem State.setConsole_drops (s : State) (c : ConsoleIx) (r : Console) : (s.setConsole c r).drops = s.drops := rfl
@[simp] theorem State.setConsole_clearances (s : State) (c : ConsoleIx) (r : Console) : (s.setConsole c r).clearances = s.clearances := rfl
@[simp] theorem State.setConsole_clearanceLock (s : State) (c : ConsoleIx) (r : Console) : (s.setConsole c r).clearanceLock = s.clearanceLock := rfl
@[simp] theorem State.setConsole_auditFailure (s : State) (c : ConsoleIx) (r : Console) : (s.setConsole c r).auditFailure = s.auditFailure := rfl
@[simp] theorem State.setConsole_auditCountdown (s : State) (c : ConsoleIx) (r : Console) : (s.setConsole c r).auditCountdown = s.auditCountdown := rfl
@[simp] theorem State.setConsole_lastAuditSum (s : State) (c : ConsoleIx) (r : Console) : (s.setConsole c r).lastAuditSum = s.lastAuditSum := rfl
@[simp] theorem State.setConsole_queue (s : State) (c : ConsoleIx) (r : Console) : (s.setConsole c r).queue = s.queue := rfl
@[simp] theorem State.setConsole_serialCounter (s : State) (c : ConsoleIx) (r : Console) : (s.setConsole c r).serialCounter = s.serialCounter := rfl
@[simp] theorem State.setConsole_params (s : State) (c : ConsoleIx) (r : Console) : (s.setConsole c r).params = s.params := rfl
@[simp] theorem State.setConsole_events (s : State) (c : ConsoleIx) (r : Console) : (s.setConsole c r).events = s.events := rfl
@[simp] theorem State.setConsole_masks (s : State) (c : ConsoleIx) (r : Console) : (s.setConsole c r).masks = s.masks := rfl
@[simp] theorem State.setConsole_slot (s : State) (c : ConsoleIx) (r : Console) : (s.setConsole c r).slot = s.slot := rfl
@[simp] theorem State.setConsole_round (s : State) (c : ConsoleIx) (r : Console) : (s.setConsole c r).round = s.round := rfl
@[simp] theorem State.setConsole_inFlight (s : State) (c : ConsoleIx) (r : Console) : (s.setConsole c r).inFlight = s.inFlight := rfl
@[simp] theorem State.setConsole_ltx (s : State) (c : ConsoleIx) (r : Console) : (s.setConsole c r).ltx = s.ltx := rfl
@[simp] theorem State.setConsole_miso (s : State) (c : ConsoleIx) (r : Console) : (s.setConsole c r).miso = s.miso := rfl
@[simp] theorem State.setConsole_passDue (s : State) (c : ConsoleIx) (r : Console) : (s.setConsole c r).passDue = s.passDue := rfl
@[simp] theorem State.setConsole_pending (s : State) (c : ConsoleIx) (r : Console) : (s.setConsole c r).pending = s.pending := rfl
@[simp] theorem State.setConsole_take (s : State) (c : ConsoleIx) (r : Console) (i : TakeIx) : (s.setConsole c r).take i = s.take i := rfl
@[simp] theorem State.setConsole_session (s : State) (c : ConsoleIx) (r : Console) (x : SessionIx) : (s.setConsole c r).session x = s.session x := rfl
@[simp] theorem State.setConsole_typist (s : State) (c : ConsoleIx) (r : Console) (t : TypistIx) : (s.setConsole c r).typist t = s.typist t := rfl
@[simp] theorem State.setConsole_drop (s : State) (c : ConsoleIx) (r : Console) (d : DropIx) : (s.setConsole c r).drop d = s.drop d := rfl
@[simp] theorem State.setConsole_clearance (s : State) (c : ConsoleIx) (r : Console) (d : DropIx) : (s.setConsole c r).clearance d = s.clearance d := rfl

/-! ### modConsole -/

@[simp] theorem State.modConsole_officeTime (s : State) (c : ConsoleIx) (f : Console → Console) : (s.modConsole c f).officeTime = s.officeTime := rfl
@[simp] theorem State.modConsole_takes (s : State) (c : ConsoleIx) (f : Console → Console) : (s.modConsole c f).takes = s.takes := rfl
@[simp] theorem State.modConsole_sessions (s : State) (c : ConsoleIx) (f : Console → Console) : (s.modConsole c f).sessions = s.sessions := rfl
@[simp] theorem State.modConsole_typists (s : State) (c : ConsoleIx) (f : Console → Console) : (s.modConsole c f).typists = s.typists := rfl
@[simp] theorem State.modConsole_drops (s : State) (c : ConsoleIx) (f : Console → Console) : (s.modConsole c f).drops = s.drops := rfl
@[simp] theorem State.modConsole_clearances (s : State) (c : ConsoleIx) (f : Console → Console) : (s.modConsole c f).clearances = s.clearances := rfl
@[simp] theorem State.modConsole_clearanceLock (s : State) (c : ConsoleIx) (f : Console → Console) : (s.modConsole c f).clearanceLock = s.clearanceLock := rfl
@[simp] theorem State.modConsole_auditFailure (s : State) (c : ConsoleIx) (f : Console → Console) : (s.modConsole c f).auditFailure = s.auditFailure := rfl
@[simp] theorem State.modConsole_auditCountdown (s : State) (c : ConsoleIx) (f : Console → Console) : (s.modConsole c f).auditCountdown = s.auditCountdown := rfl
@[simp] theorem State.modConsole_lastAuditSum (s : State) (c : ConsoleIx) (f : Console → Console) : (s.modConsole c f).lastAuditSum = s.lastAuditSum := rfl
@[simp] theorem State.modConsole_queue (s : State) (c : ConsoleIx) (f : Console → Console) : (s.modConsole c f).queue = s.queue := rfl
@[simp] theorem State.modConsole_serialCounter (s : State) (c : ConsoleIx) (f : Console → Console) : (s.modConsole c f).serialCounter = s.serialCounter := rfl
@[simp] theorem State.modConsole_params (s : State) (c : ConsoleIx) (f : Console → Console) : (s.modConsole c f).params = s.params := rfl
@[simp] theorem State.modConsole_events (s : State) (c : ConsoleIx) (f : Console → Console) : (s.modConsole c f).events = s.events := rfl
@[simp] theorem State.modConsole_masks (s : State) (c : ConsoleIx) (f : Console → Console) : (s.modConsole c f).masks = s.masks := rfl
@[simp] theorem State.modConsole_slot (s : State) (c : ConsoleIx) (f : Console → Console) : (s.modConsole c f).slot = s.slot := rfl
@[simp] theorem State.modConsole_round (s : State) (c : ConsoleIx) (f : Console → Console) : (s.modConsole c f).round = s.round := rfl
@[simp] theorem State.modConsole_inFlight (s : State) (c : ConsoleIx) (f : Console → Console) : (s.modConsole c f).inFlight = s.inFlight := rfl
@[simp] theorem State.modConsole_ltx (s : State) (c : ConsoleIx) (f : Console → Console) : (s.modConsole c f).ltx = s.ltx := rfl
@[simp] theorem State.modConsole_miso (s : State) (c : ConsoleIx) (f : Console → Console) : (s.modConsole c f).miso = s.miso := rfl
@[simp] theorem State.modConsole_passDue (s : State) (c : ConsoleIx) (f : Console → Console) : (s.modConsole c f).passDue = s.passDue := rfl
@[simp] theorem State.modConsole_pending (s : State) (c : ConsoleIx) (f : Console → Console) : (s.modConsole c f).pending = s.pending := rfl
@[simp] theorem State.modConsole_take (s : State) (c : ConsoleIx) (f : Console → Console) (i : TakeIx) : (s.modConsole c f).take i = s.take i := rfl
@[simp] theorem State.modConsole_session (s : State) (c : ConsoleIx) (f : Console → Console) (x : SessionIx) : (s.modConsole c f).session x = s.session x := rfl
@[simp] theorem State.modConsole_typist (s : State) (c : ConsoleIx) (f : Console → Console) (t : TypistIx) : (s.modConsole c f).typist t = s.typist t := rfl
@[simp] theorem State.modConsole_drop (s : State) (c : ConsoleIx) (f : Console → Console) (d : DropIx) : (s.modConsole c f).drop d = s.drop d := rfl
@[simp] theorem State.modConsole_clearance (s : State) (c : ConsoleIx) (f : Console → Console) (d : DropIx) : (s.modConsole c f).clearance d = s.clearance d := rfl

/-! ### setTypist -/

@[simp] theorem State.setTypist_officeTime (s : State) (t : TypistIx) (r : Typist) : (s.setTypist t r).officeTime = s.officeTime := rfl
@[simp] theorem State.setTypist_takes (s : State) (t : TypistIx) (r : Typist) : (s.setTypist t r).takes = s.takes := rfl
@[simp] theorem State.setTypist_sessions (s : State) (t : TypistIx) (r : Typist) : (s.setTypist t r).sessions = s.sessions := rfl
@[simp] theorem State.setTypist_consoles (s : State) (t : TypistIx) (r : Typist) : (s.setTypist t r).consoles = s.consoles := rfl
@[simp] theorem State.setTypist_typists (s : State) (t : TypistIx) (r : Typist) : (s.setTypist t r).typists = s.typists.set t.val r t.isLt := rfl
@[simp] theorem State.setTypist_drops (s : State) (t : TypistIx) (r : Typist) : (s.setTypist t r).drops = s.drops := rfl
@[simp] theorem State.setTypist_clearances (s : State) (t : TypistIx) (r : Typist) : (s.setTypist t r).clearances = s.clearances := rfl
@[simp] theorem State.setTypist_clearanceLock (s : State) (t : TypistIx) (r : Typist) : (s.setTypist t r).clearanceLock = s.clearanceLock := rfl
@[simp] theorem State.setTypist_auditFailure (s : State) (t : TypistIx) (r : Typist) : (s.setTypist t r).auditFailure = s.auditFailure := rfl
@[simp] theorem State.setTypist_auditCountdown (s : State) (t : TypistIx) (r : Typist) : (s.setTypist t r).auditCountdown = s.auditCountdown := rfl
@[simp] theorem State.setTypist_lastAuditSum (s : State) (t : TypistIx) (r : Typist) : (s.setTypist t r).lastAuditSum = s.lastAuditSum := rfl
@[simp] theorem State.setTypist_queue (s : State) (t : TypistIx) (r : Typist) : (s.setTypist t r).queue = s.queue := rfl
@[simp] theorem State.setTypist_serialCounter (s : State) (t : TypistIx) (r : Typist) : (s.setTypist t r).serialCounter = s.serialCounter := rfl
@[simp] theorem State.setTypist_params (s : State) (t : TypistIx) (r : Typist) : (s.setTypist t r).params = s.params := rfl
@[simp] theorem State.setTypist_events (s : State) (t : TypistIx) (r : Typist) : (s.setTypist t r).events = s.events := rfl
@[simp] theorem State.setTypist_masks (s : State) (t : TypistIx) (r : Typist) : (s.setTypist t r).masks = s.masks := rfl
@[simp] theorem State.setTypist_slot (s : State) (t : TypistIx) (r : Typist) : (s.setTypist t r).slot = s.slot := rfl
@[simp] theorem State.setTypist_round (s : State) (t : TypistIx) (r : Typist) : (s.setTypist t r).round = s.round := rfl
@[simp] theorem State.setTypist_inFlight (s : State) (t : TypistIx) (r : Typist) : (s.setTypist t r).inFlight = s.inFlight := rfl
@[simp] theorem State.setTypist_ltx (s : State) (t : TypistIx) (r : Typist) : (s.setTypist t r).ltx = s.ltx := rfl
@[simp] theorem State.setTypist_miso (s : State) (t : TypistIx) (r : Typist) : (s.setTypist t r).miso = s.miso := rfl
@[simp] theorem State.setTypist_passDue (s : State) (t : TypistIx) (r : Typist) : (s.setTypist t r).passDue = s.passDue := rfl
@[simp] theorem State.setTypist_pending (s : State) (t : TypistIx) (r : Typist) : (s.setTypist t r).pending = s.pending := rfl
@[simp] theorem State.setTypist_take (s : State) (t : TypistIx) (r : Typist) (i : TakeIx) : (s.setTypist t r).take i = s.take i := rfl
@[simp] theorem State.setTypist_session (s : State) (t : TypistIx) (r : Typist) (x : SessionIx) : (s.setTypist t r).session x = s.session x := rfl
@[simp] theorem State.setTypist_console (s : State) (t : TypistIx) (r : Typist) (c : ConsoleIx) : (s.setTypist t r).console c = s.console c := rfl
@[simp] theorem State.setTypist_drop (s : State) (t : TypistIx) (r : Typist) (d : DropIx) : (s.setTypist t r).drop d = s.drop d := rfl
@[simp] theorem State.setTypist_clearance (s : State) (t : TypistIx) (r : Typist) (d : DropIx) : (s.setTypist t r).clearance d = s.clearance d := rfl

/-! ### modTypist -/

@[simp] theorem State.modTypist_officeTime (s : State) (t : TypistIx) (f : Typist → Typist) : (s.modTypist t f).officeTime = s.officeTime := rfl
@[simp] theorem State.modTypist_takes (s : State) (t : TypistIx) (f : Typist → Typist) : (s.modTypist t f).takes = s.takes := rfl
@[simp] theorem State.modTypist_sessions (s : State) (t : TypistIx) (f : Typist → Typist) : (s.modTypist t f).sessions = s.sessions := rfl
@[simp] theorem State.modTypist_consoles (s : State) (t : TypistIx) (f : Typist → Typist) : (s.modTypist t f).consoles = s.consoles := rfl
@[simp] theorem State.modTypist_drops (s : State) (t : TypistIx) (f : Typist → Typist) : (s.modTypist t f).drops = s.drops := rfl
@[simp] theorem State.modTypist_clearances (s : State) (t : TypistIx) (f : Typist → Typist) : (s.modTypist t f).clearances = s.clearances := rfl
@[simp] theorem State.modTypist_clearanceLock (s : State) (t : TypistIx) (f : Typist → Typist) : (s.modTypist t f).clearanceLock = s.clearanceLock := rfl
@[simp] theorem State.modTypist_auditFailure (s : State) (t : TypistIx) (f : Typist → Typist) : (s.modTypist t f).auditFailure = s.auditFailure := rfl
@[simp] theorem State.modTypist_auditCountdown (s : State) (t : TypistIx) (f : Typist → Typist) : (s.modTypist t f).auditCountdown = s.auditCountdown := rfl
@[simp] theorem State.modTypist_lastAuditSum (s : State) (t : TypistIx) (f : Typist → Typist) : (s.modTypist t f).lastAuditSum = s.lastAuditSum := rfl
@[simp] theorem State.modTypist_queue (s : State) (t : TypistIx) (f : Typist → Typist) : (s.modTypist t f).queue = s.queue := rfl
@[simp] theorem State.modTypist_serialCounter (s : State) (t : TypistIx) (f : Typist → Typist) : (s.modTypist t f).serialCounter = s.serialCounter := rfl
@[simp] theorem State.modTypist_params (s : State) (t : TypistIx) (f : Typist → Typist) : (s.modTypist t f).params = s.params := rfl
@[simp] theorem State.modTypist_events (s : State) (t : TypistIx) (f : Typist → Typist) : (s.modTypist t f).events = s.events := rfl
@[simp] theorem State.modTypist_masks (s : State) (t : TypistIx) (f : Typist → Typist) : (s.modTypist t f).masks = s.masks := rfl
@[simp] theorem State.modTypist_slot (s : State) (t : TypistIx) (f : Typist → Typist) : (s.modTypist t f).slot = s.slot := rfl
@[simp] theorem State.modTypist_round (s : State) (t : TypistIx) (f : Typist → Typist) : (s.modTypist t f).round = s.round := rfl
@[simp] theorem State.modTypist_inFlight (s : State) (t : TypistIx) (f : Typist → Typist) : (s.modTypist t f).inFlight = s.inFlight := rfl
@[simp] theorem State.modTypist_ltx (s : State) (t : TypistIx) (f : Typist → Typist) : (s.modTypist t f).ltx = s.ltx := rfl
@[simp] theorem State.modTypist_miso (s : State) (t : TypistIx) (f : Typist → Typist) : (s.modTypist t f).miso = s.miso := rfl
@[simp] theorem State.modTypist_passDue (s : State) (t : TypistIx) (f : Typist → Typist) : (s.modTypist t f).passDue = s.passDue := rfl
@[simp] theorem State.modTypist_pending (s : State) (t : TypistIx) (f : Typist → Typist) : (s.modTypist t f).pending = s.pending := rfl
@[simp] theorem State.modTypist_take (s : State) (t : TypistIx) (f : Typist → Typist) (i : TakeIx) : (s.modTypist t f).take i = s.take i := rfl
@[simp] theorem State.modTypist_session (s : State) (t : TypistIx) (f : Typist → Typist) (x : SessionIx) : (s.modTypist t f).session x = s.session x := rfl
@[simp] theorem State.modTypist_console (s : State) (t : TypistIx) (f : Typist → Typist) (c : ConsoleIx) : (s.modTypist t f).console c = s.console c := rfl
@[simp] theorem State.modTypist_drop (s : State) (t : TypistIx) (f : Typist → Typist) (d : DropIx) : (s.modTypist t f).drop d = s.drop d := rfl
@[simp] theorem State.modTypist_clearance (s : State) (t : TypistIx) (f : Typist → Typist) (d : DropIx) : (s.modTypist t f).clearance d = s.clearance d := rfl

/-! ### setDrop -/

@[simp] theorem State.setDrop_officeTime (s : State) (d : DropIx) (r : Drop) : (s.setDrop d r).officeTime = s.officeTime := rfl
@[simp] theorem State.setDrop_takes (s : State) (d : DropIx) (r : Drop) : (s.setDrop d r).takes = s.takes := rfl
@[simp] theorem State.setDrop_sessions (s : State) (d : DropIx) (r : Drop) : (s.setDrop d r).sessions = s.sessions := rfl
@[simp] theorem State.setDrop_consoles (s : State) (d : DropIx) (r : Drop) : (s.setDrop d r).consoles = s.consoles := rfl
@[simp] theorem State.setDrop_typists (s : State) (d : DropIx) (r : Drop) : (s.setDrop d r).typists = s.typists := rfl
@[simp] theorem State.setDrop_drops (s : State) (d : DropIx) (r : Drop) : (s.setDrop d r).drops = s.drops.set d.val r d.isLt := rfl
@[simp] theorem State.setDrop_clearances (s : State) (d : DropIx) (r : Drop) : (s.setDrop d r).clearances = s.clearances := rfl
@[simp] theorem State.setDrop_clearanceLock (s : State) (d : DropIx) (r : Drop) : (s.setDrop d r).clearanceLock = s.clearanceLock := rfl
@[simp] theorem State.setDrop_auditFailure (s : State) (d : DropIx) (r : Drop) : (s.setDrop d r).auditFailure = s.auditFailure := rfl
@[simp] theorem State.setDrop_auditCountdown (s : State) (d : DropIx) (r : Drop) : (s.setDrop d r).auditCountdown = s.auditCountdown := rfl
@[simp] theorem State.setDrop_lastAuditSum (s : State) (d : DropIx) (r : Drop) : (s.setDrop d r).lastAuditSum = s.lastAuditSum := rfl
@[simp] theorem State.setDrop_queue (s : State) (d : DropIx) (r : Drop) : (s.setDrop d r).queue = s.queue := rfl
@[simp] theorem State.setDrop_serialCounter (s : State) (d : DropIx) (r : Drop) : (s.setDrop d r).serialCounter = s.serialCounter := rfl
@[simp] theorem State.setDrop_params (s : State) (d : DropIx) (r : Drop) : (s.setDrop d r).params = s.params := rfl
@[simp] theorem State.setDrop_events (s : State) (d : DropIx) (r : Drop) : (s.setDrop d r).events = s.events := rfl
@[simp] theorem State.setDrop_masks (s : State) (d : DropIx) (r : Drop) : (s.setDrop d r).masks = s.masks := rfl
@[simp] theorem State.setDrop_slot (s : State) (d : DropIx) (r : Drop) : (s.setDrop d r).slot = s.slot := rfl
@[simp] theorem State.setDrop_round (s : State) (d : DropIx) (r : Drop) : (s.setDrop d r).round = s.round := rfl
@[simp] theorem State.setDrop_inFlight (s : State) (d : DropIx) (r : Drop) : (s.setDrop d r).inFlight = s.inFlight := rfl
@[simp] theorem State.setDrop_ltx (s : State) (d : DropIx) (r : Drop) : (s.setDrop d r).ltx = s.ltx := rfl
@[simp] theorem State.setDrop_miso (s : State) (d : DropIx) (r : Drop) : (s.setDrop d r).miso = s.miso := rfl
@[simp] theorem State.setDrop_passDue (s : State) (d : DropIx) (r : Drop) : (s.setDrop d r).passDue = s.passDue := rfl
@[simp] theorem State.setDrop_pending (s : State) (d : DropIx) (r : Drop) : (s.setDrop d r).pending = s.pending := rfl
@[simp] theorem State.setDrop_take (s : State) (d : DropIx) (r : Drop) (i : TakeIx) : (s.setDrop d r).take i = s.take i := rfl
@[simp] theorem State.setDrop_session (s : State) (d : DropIx) (r : Drop) (x : SessionIx) : (s.setDrop d r).session x = s.session x := rfl
@[simp] theorem State.setDrop_console (s : State) (d : DropIx) (r : Drop) (c : ConsoleIx) : (s.setDrop d r).console c = s.console c := rfl
@[simp] theorem State.setDrop_typist (s : State) (d : DropIx) (r : Drop) (t : TypistIx) : (s.setDrop d r).typist t = s.typist t := rfl
@[simp] theorem State.setDrop_clearance (s : State) (d : DropIx) (r : Drop) (d' : DropIx) : (s.setDrop d r).clearance d' = s.clearance d' := rfl

/-! ### modDrop -/

@[simp] theorem State.modDrop_officeTime (s : State) (d : DropIx) (f : Drop → Drop) : (s.modDrop d f).officeTime = s.officeTime := rfl
@[simp] theorem State.modDrop_takes (s : State) (d : DropIx) (f : Drop → Drop) : (s.modDrop d f).takes = s.takes := rfl
@[simp] theorem State.modDrop_sessions (s : State) (d : DropIx) (f : Drop → Drop) : (s.modDrop d f).sessions = s.sessions := rfl
@[simp] theorem State.modDrop_consoles (s : State) (d : DropIx) (f : Drop → Drop) : (s.modDrop d f).consoles = s.consoles := rfl
@[simp] theorem State.modDrop_typists (s : State) (d : DropIx) (f : Drop → Drop) : (s.modDrop d f).typists = s.typists := rfl
@[simp] theorem State.modDrop_clearances (s : State) (d : DropIx) (f : Drop → Drop) : (s.modDrop d f).clearances = s.clearances := rfl
@[simp] theorem State.modDrop_clearanceLock (s : State) (d : DropIx) (f : Drop → Drop) : (s.modDrop d f).clearanceLock = s.clearanceLock := rfl
@[simp] theorem State.modDrop_auditFailure (s : State) (d : DropIx) (f : Drop → Drop) : (s.modDrop d f).auditFailure = s.auditFailure := rfl
@[simp] theorem State.modDrop_auditCountdown (s : State) (d : DropIx) (f : Drop → Drop) : (s.modDrop d f).auditCountdown = s.auditCountdown := rfl
@[simp] theorem State.modDrop_lastAuditSum (s : State) (d : DropIx) (f : Drop → Drop) : (s.modDrop d f).lastAuditSum = s.lastAuditSum := rfl
@[simp] theorem State.modDrop_queue (s : State) (d : DropIx) (f : Drop → Drop) : (s.modDrop d f).queue = s.queue := rfl
@[simp] theorem State.modDrop_serialCounter (s : State) (d : DropIx) (f : Drop → Drop) : (s.modDrop d f).serialCounter = s.serialCounter := rfl
@[simp] theorem State.modDrop_params (s : State) (d : DropIx) (f : Drop → Drop) : (s.modDrop d f).params = s.params := rfl
@[simp] theorem State.modDrop_events (s : State) (d : DropIx) (f : Drop → Drop) : (s.modDrop d f).events = s.events := rfl
@[simp] theorem State.modDrop_masks (s : State) (d : DropIx) (f : Drop → Drop) : (s.modDrop d f).masks = s.masks := rfl
@[simp] theorem State.modDrop_slot (s : State) (d : DropIx) (f : Drop → Drop) : (s.modDrop d f).slot = s.slot := rfl
@[simp] theorem State.modDrop_round (s : State) (d : DropIx) (f : Drop → Drop) : (s.modDrop d f).round = s.round := rfl
@[simp] theorem State.modDrop_inFlight (s : State) (d : DropIx) (f : Drop → Drop) : (s.modDrop d f).inFlight = s.inFlight := rfl
@[simp] theorem State.modDrop_ltx (s : State) (d : DropIx) (f : Drop → Drop) : (s.modDrop d f).ltx = s.ltx := rfl
@[simp] theorem State.modDrop_miso (s : State) (d : DropIx) (f : Drop → Drop) : (s.modDrop d f).miso = s.miso := rfl
@[simp] theorem State.modDrop_passDue (s : State) (d : DropIx) (f : Drop → Drop) : (s.modDrop d f).passDue = s.passDue := rfl
@[simp] theorem State.modDrop_pending (s : State) (d : DropIx) (f : Drop → Drop) : (s.modDrop d f).pending = s.pending := rfl
@[simp] theorem State.modDrop_take (s : State) (d : DropIx) (f : Drop → Drop) (i : TakeIx) : (s.modDrop d f).take i = s.take i := rfl
@[simp] theorem State.modDrop_session (s : State) (d : DropIx) (f : Drop → Drop) (x : SessionIx) : (s.modDrop d f).session x = s.session x := rfl
@[simp] theorem State.modDrop_console (s : State) (d : DropIx) (f : Drop → Drop) (c : ConsoleIx) : (s.modDrop d f).console c = s.console c := rfl
@[simp] theorem State.modDrop_typist (s : State) (d : DropIx) (f : Drop → Drop) (t : TypistIx) : (s.modDrop d f).typist t = s.typist t := rfl
@[simp] theorem State.modDrop_clearance (s : State) (d : DropIx) (f : Drop → Drop) (d' : DropIx) : (s.modDrop d f).clearance d' = s.clearance d' := rfl

/-! ### setOut -/

@[simp] theorem State.setOut_officeTime (s : State) (d : DropIx) (q : List Message) : (s.setOut d q).officeTime = s.officeTime := rfl
@[simp] theorem State.setOut_takes (s : State) (d : DropIx) (q : List Message) : (s.setOut d q).takes = s.takes := rfl
@[simp] theorem State.setOut_sessions (s : State) (d : DropIx) (q : List Message) : (s.setOut d q).sessions = s.sessions := rfl
@[simp] theorem State.setOut_consoles (s : State) (d : DropIx) (q : List Message) : (s.setOut d q).consoles = s.consoles := rfl
@[simp] theorem State.setOut_typists (s : State) (d : DropIx) (q : List Message) : (s.setOut d q).typists = s.typists := rfl
@[simp] theorem State.setOut_clearances (s : State) (d : DropIx) (q : List Message) : (s.setOut d q).clearances = s.clearances := rfl
@[simp] theorem State.setOut_clearanceLock (s : State) (d : DropIx) (q : List Message) : (s.setOut d q).clearanceLock = s.clearanceLock := rfl
@[simp] theorem State.setOut_auditFailure (s : State) (d : DropIx) (q : List Message) : (s.setOut d q).auditFailure = s.auditFailure := rfl
@[simp] theorem State.setOut_auditCountdown (s : State) (d : DropIx) (q : List Message) : (s.setOut d q).auditCountdown = s.auditCountdown := rfl
@[simp] theorem State.setOut_lastAuditSum (s : State) (d : DropIx) (q : List Message) : (s.setOut d q).lastAuditSum = s.lastAuditSum := rfl
@[simp] theorem State.setOut_queue (s : State) (d : DropIx) (q : List Message) : (s.setOut d q).queue = s.queue := rfl
@[simp] theorem State.setOut_serialCounter (s : State) (d : DropIx) (q : List Message) : (s.setOut d q).serialCounter = s.serialCounter := rfl
@[simp] theorem State.setOut_params (s : State) (d : DropIx) (q : List Message) : (s.setOut d q).params = s.params := rfl
@[simp] theorem State.setOut_events (s : State) (d : DropIx) (q : List Message) : (s.setOut d q).events = s.events := rfl
@[simp] theorem State.setOut_masks (s : State) (d : DropIx) (q : List Message) : (s.setOut d q).masks = s.masks := rfl
@[simp] theorem State.setOut_slot (s : State) (d : DropIx) (q : List Message) : (s.setOut d q).slot = s.slot := rfl
@[simp] theorem State.setOut_round (s : State) (d : DropIx) (q : List Message) : (s.setOut d q).round = s.round := rfl
@[simp] theorem State.setOut_inFlight (s : State) (d : DropIx) (q : List Message) : (s.setOut d q).inFlight = s.inFlight := rfl
@[simp] theorem State.setOut_ltx (s : State) (d : DropIx) (q : List Message) : (s.setOut d q).ltx = s.ltx := rfl
@[simp] theorem State.setOut_miso (s : State) (d : DropIx) (q : List Message) : (s.setOut d q).miso = s.miso := rfl
@[simp] theorem State.setOut_passDue (s : State) (d : DropIx) (q : List Message) : (s.setOut d q).passDue = s.passDue := rfl
@[simp] theorem State.setOut_pending (s : State) (d : DropIx) (q : List Message) : (s.setOut d q).pending = s.pending := rfl
@[simp] theorem State.setOut_take (s : State) (d : DropIx) (q : List Message) (i : TakeIx) : (s.setOut d q).take i = s.take i := rfl
@[simp] theorem State.setOut_session (s : State) (d : DropIx) (q : List Message) (x : SessionIx) : (s.setOut d q).session x = s.session x := rfl
@[simp] theorem State.setOut_console (s : State) (d : DropIx) (q : List Message) (c : ConsoleIx) : (s.setOut d q).console c = s.console c := rfl
@[simp] theorem State.setOut_typist (s : State) (d : DropIx) (q : List Message) (t : TypistIx) : (s.setOut d q).typist t = s.typist t := rfl
@[simp] theorem State.setOut_clearance (s : State) (d : DropIx) (q : List Message) (d' : DropIx) : (s.setOut d q).clearance d' = s.clearance d' := rfl

/-! ### removeOut -/

@[simp] theorem State.removeOut_officeTime (s : State) (d : DropIx) (p : Message → Bool) : (s.removeOut d p).officeTime = s.officeTime := rfl
@[simp] theorem State.removeOut_takes (s : State) (d : DropIx) (p : Message → Bool) : (s.removeOut d p).takes = s.takes := rfl
@[simp] theorem State.removeOut_sessions (s : State) (d : DropIx) (p : Message → Bool) : (s.removeOut d p).sessions = s.sessions := rfl
@[simp] theorem State.removeOut_consoles (s : State) (d : DropIx) (p : Message → Bool) : (s.removeOut d p).consoles = s.consoles := rfl
@[simp] theorem State.removeOut_typists (s : State) (d : DropIx) (p : Message → Bool) : (s.removeOut d p).typists = s.typists := rfl
@[simp] theorem State.removeOut_clearances (s : State) (d : DropIx) (p : Message → Bool) : (s.removeOut d p).clearances = s.clearances := rfl
@[simp] theorem State.removeOut_clearanceLock (s : State) (d : DropIx) (p : Message → Bool) : (s.removeOut d p).clearanceLock = s.clearanceLock := rfl
@[simp] theorem State.removeOut_auditFailure (s : State) (d : DropIx) (p : Message → Bool) : (s.removeOut d p).auditFailure = s.auditFailure := rfl
@[simp] theorem State.removeOut_auditCountdown (s : State) (d : DropIx) (p : Message → Bool) : (s.removeOut d p).auditCountdown = s.auditCountdown := rfl
@[simp] theorem State.removeOut_lastAuditSum (s : State) (d : DropIx) (p : Message → Bool) : (s.removeOut d p).lastAuditSum = s.lastAuditSum := rfl
@[simp] theorem State.removeOut_queue (s : State) (d : DropIx) (p : Message → Bool) : (s.removeOut d p).queue = s.queue := rfl
@[simp] theorem State.removeOut_serialCounter (s : State) (d : DropIx) (p : Message → Bool) : (s.removeOut d p).serialCounter = s.serialCounter := rfl
@[simp] theorem State.removeOut_params (s : State) (d : DropIx) (p : Message → Bool) : (s.removeOut d p).params = s.params := rfl
@[simp] theorem State.removeOut_events (s : State) (d : DropIx) (p : Message → Bool) : (s.removeOut d p).events = s.events := rfl
@[simp] theorem State.removeOut_masks (s : State) (d : DropIx) (p : Message → Bool) : (s.removeOut d p).masks = s.masks := rfl
@[simp] theorem State.removeOut_slot (s : State) (d : DropIx) (p : Message → Bool) : (s.removeOut d p).slot = s.slot := rfl
@[simp] theorem State.removeOut_round (s : State) (d : DropIx) (p : Message → Bool) : (s.removeOut d p).round = s.round := rfl
@[simp] theorem State.removeOut_inFlight (s : State) (d : DropIx) (p : Message → Bool) : (s.removeOut d p).inFlight = s.inFlight := rfl
@[simp] theorem State.removeOut_ltx (s : State) (d : DropIx) (p : Message → Bool) : (s.removeOut d p).ltx = s.ltx := rfl
@[simp] theorem State.removeOut_miso (s : State) (d : DropIx) (p : Message → Bool) : (s.removeOut d p).miso = s.miso := rfl
@[simp] theorem State.removeOut_passDue (s : State) (d : DropIx) (p : Message → Bool) : (s.removeOut d p).passDue = s.passDue := rfl
@[simp] theorem State.removeOut_pending (s : State) (d : DropIx) (p : Message → Bool) : (s.removeOut d p).pending = s.pending := rfl
@[simp] theorem State.removeOut_take (s : State) (d : DropIx) (p : Message → Bool) (i : TakeIx) : (s.removeOut d p).take i = s.take i := rfl
@[simp] theorem State.removeOut_session (s : State) (d : DropIx) (p : Message → Bool) (x : SessionIx) : (s.removeOut d p).session x = s.session x := rfl
@[simp] theorem State.removeOut_console (s : State) (d : DropIx) (p : Message → Bool) (c : ConsoleIx) : (s.removeOut d p).console c = s.console c := rfl
@[simp] theorem State.removeOut_typist (s : State) (d : DropIx) (p : Message → Bool) (t : TypistIx) : (s.removeOut d p).typist t = s.typist t := rfl
@[simp] theorem State.removeOut_clearance (s : State) (d : DropIx) (p : Message → Bool) (d' : DropIx) : (s.removeOut d p).clearance d' = s.clearance d' := rfl

/-! ### discardRequest -/

@[simp] theorem State.discardRequest_officeTime (s : State) (d : DropIx) : (s.discardRequest d).officeTime = s.officeTime := rfl
@[simp] theorem State.discardRequest_takes (s : State) (d : DropIx) : (s.discardRequest d).takes = s.takes := rfl
@[simp] theorem State.discardRequest_sessions (s : State) (d : DropIx) : (s.discardRequest d).sessions = s.sessions := rfl
@[simp] theorem State.discardRequest_consoles (s : State) (d : DropIx) : (s.discardRequest d).consoles = s.consoles := rfl
@[simp] theorem State.discardRequest_typists (s : State) (d : DropIx) : (s.discardRequest d).typists = s.typists := rfl
@[simp] theorem State.discardRequest_clearances (s : State) (d : DropIx) : (s.discardRequest d).clearances = s.clearances := rfl
@[simp] theorem State.discardRequest_clearanceLock (s : State) (d : DropIx) : (s.discardRequest d).clearanceLock = s.clearanceLock := rfl
@[simp] theorem State.discardRequest_auditFailure (s : State) (d : DropIx) : (s.discardRequest d).auditFailure = s.auditFailure := rfl
@[simp] theorem State.discardRequest_auditCountdown (s : State) (d : DropIx) : (s.discardRequest d).auditCountdown = s.auditCountdown := rfl
@[simp] theorem State.discardRequest_lastAuditSum (s : State) (d : DropIx) : (s.discardRequest d).lastAuditSum = s.lastAuditSum := rfl
@[simp] theorem State.discardRequest_queue (s : State) (d : DropIx) : (s.discardRequest d).queue = s.queue := rfl
@[simp] theorem State.discardRequest_serialCounter (s : State) (d : DropIx) : (s.discardRequest d).serialCounter = s.serialCounter := rfl
@[simp] theorem State.discardRequest_params (s : State) (d : DropIx) : (s.discardRequest d).params = s.params := rfl
@[simp] theorem State.discardRequest_events (s : State) (d : DropIx) : (s.discardRequest d).events = s.events := rfl
@[simp] theorem State.discardRequest_masks (s : State) (d : DropIx) : (s.discardRequest d).masks = s.masks := rfl
@[simp] theorem State.discardRequest_slot (s : State) (d : DropIx) : (s.discardRequest d).slot = s.slot := rfl
@[simp] theorem State.discardRequest_round (s : State) (d : DropIx) : (s.discardRequest d).round = s.round := rfl
@[simp] theorem State.discardRequest_inFlight (s : State) (d : DropIx) : (s.discardRequest d).inFlight = s.inFlight := rfl
@[simp] theorem State.discardRequest_ltx (s : State) (d : DropIx) : (s.discardRequest d).ltx = s.ltx := rfl
@[simp] theorem State.discardRequest_miso (s : State) (d : DropIx) : (s.discardRequest d).miso = s.miso := rfl
@[simp] theorem State.discardRequest_passDue (s : State) (d : DropIx) : (s.discardRequest d).passDue = s.passDue := rfl
@[simp] theorem State.discardRequest_pending (s : State) (d : DropIx) : (s.discardRequest d).pending = s.pending := rfl
@[simp] theorem State.discardRequest_take (s : State) (d : DropIx) (i : TakeIx) : (s.discardRequest d).take i = s.take i := rfl
@[simp] theorem State.discardRequest_session (s : State) (d : DropIx) (x : SessionIx) : (s.discardRequest d).session x = s.session x := rfl
@[simp] theorem State.discardRequest_console (s : State) (d : DropIx) (c : ConsoleIx) : (s.discardRequest d).console c = s.console c := rfl
@[simp] theorem State.discardRequest_typist (s : State) (d : DropIx) (t : TypistIx) : (s.discardRequest d).typist t = s.typist t := rfl
@[simp] theorem State.discardRequest_clearance (s : State) (d : DropIx) (d' : DropIx) : (s.discardRequest d).clearance d' = s.clearance d' := rfl

/-! ### triggerPass -/

@[simp] theorem State.triggerPass_officeTime (s : State) : (s.triggerPass).officeTime = s.officeTime := rfl
@[simp] theorem State.triggerPass_takes (s : State) : (s.triggerPass).takes = s.takes := rfl
@[simp] theorem State.triggerPass_sessions (s : State) : (s.triggerPass).sessions = s.sessions := rfl
@[simp] theorem State.triggerPass_consoles (s : State) : (s.triggerPass).consoles = s.consoles := rfl
@[simp] theorem State.triggerPass_typists (s : State) : (s.triggerPass).typists = s.typists := rfl
@[simp] theorem State.triggerPass_drops (s : State) : (s.triggerPass).drops = s.drops := rfl
@[simp] theorem State.triggerPass_clearances (s : State) : (s.triggerPass).clearances = s.clearances := rfl
@[simp] theorem State.triggerPass_clearanceLock (s : State) : (s.triggerPass).clearanceLock = s.clearanceLock := rfl
@[simp] theorem State.triggerPass_auditFailure (s : State) : (s.triggerPass).auditFailure = s.auditFailure := rfl
@[simp] theorem State.triggerPass_auditCountdown (s : State) : (s.triggerPass).auditCountdown = s.auditCountdown := rfl
@[simp] theorem State.triggerPass_lastAuditSum (s : State) : (s.triggerPass).lastAuditSum = s.lastAuditSum := rfl
@[simp] theorem State.triggerPass_queue (s : State) : (s.triggerPass).queue = s.queue := rfl
@[simp] theorem State.triggerPass_serialCounter (s : State) : (s.triggerPass).serialCounter = s.serialCounter := rfl
@[simp] theorem State.triggerPass_params (s : State) : (s.triggerPass).params = s.params := rfl
@[simp] theorem State.triggerPass_events (s : State) : (s.triggerPass).events = s.events := rfl
@[simp] theorem State.triggerPass_masks (s : State) : (s.triggerPass).masks = s.masks := rfl
@[simp] theorem State.triggerPass_slot (s : State) : (s.triggerPass).slot = s.slot := rfl
@[simp] theorem State.triggerPass_round (s : State) : (s.triggerPass).round = s.round := rfl
@[simp] theorem State.triggerPass_inFlight (s : State) : (s.triggerPass).inFlight = s.inFlight := rfl
@[simp] theorem State.triggerPass_ltx (s : State) : (s.triggerPass).ltx = s.ltx := rfl
@[simp] theorem State.triggerPass_miso (s : State) : (s.triggerPass).miso = s.miso := rfl
@[simp] theorem State.triggerPass_passDue (s : State) : (s.triggerPass).passDue = true := rfl
@[simp] theorem State.triggerPass_pending (s : State) : (s.triggerPass).pending = s.pending := rfl
@[simp] theorem State.triggerPass_take (s : State) (i : TakeIx) : (s.triggerPass).take i = s.take i := rfl
@[simp] theorem State.triggerPass_session (s : State) (x : SessionIx) : (s.triggerPass).session x = s.session x := rfl
@[simp] theorem State.triggerPass_console (s : State) (c : ConsoleIx) : (s.triggerPass).console c = s.console c := rfl
@[simp] theorem State.triggerPass_typist (s : State) (t : TypistIx) : (s.triggerPass).typist t = s.typist t := rfl
@[simp] theorem State.triggerPass_drop (s : State) (d : DropIx) : (s.triggerPass).drop d = s.drop d := rfl
@[simp] theorem State.triggerPass_clearance (s : State) (d : DropIx) : (s.triggerPass).clearance d = s.clearance d := rfl

/-! ### enqueue -/

@[simp] theorem State.enqueue_officeTime (s : State) (i : TakeIx) : (s.enqueue i).officeTime = s.officeTime := rfl
@[simp] theorem State.enqueue_takes (s : State) (i : TakeIx) : (s.enqueue i).takes = s.takes := rfl
@[simp] theorem State.enqueue_sessions (s : State) (i : TakeIx) : (s.enqueue i).sessions = s.sessions := rfl
@[simp] theorem State.enqueue_consoles (s : State) (i : TakeIx) : (s.enqueue i).consoles = s.consoles := rfl
@[simp] theorem State.enqueue_typists (s : State) (i : TakeIx) : (s.enqueue i).typists = s.typists := rfl
@[simp] theorem State.enqueue_drops (s : State) (i : TakeIx) : (s.enqueue i).drops = s.drops := rfl
@[simp] theorem State.enqueue_clearances (s : State) (i : TakeIx) : (s.enqueue i).clearances = s.clearances := rfl
@[simp] theorem State.enqueue_clearanceLock (s : State) (i : TakeIx) : (s.enqueue i).clearanceLock = s.clearanceLock := rfl
@[simp] theorem State.enqueue_auditFailure (s : State) (i : TakeIx) : (s.enqueue i).auditFailure = s.auditFailure := rfl
@[simp] theorem State.enqueue_auditCountdown (s : State) (i : TakeIx) : (s.enqueue i).auditCountdown = s.auditCountdown := rfl
@[simp] theorem State.enqueue_lastAuditSum (s : State) (i : TakeIx) : (s.enqueue i).lastAuditSum = s.lastAuditSum := rfl
@[simp] theorem State.enqueue_queue (s : State) (i : TakeIx) : (s.enqueue i).queue = insertEntry (s.entryOf i) s.queue := rfl
@[simp] theorem State.enqueue_serialCounter (s : State) (i : TakeIx) : (s.enqueue i).serialCounter = s.serialCounter := rfl
@[simp] theorem State.enqueue_params (s : State) (i : TakeIx) : (s.enqueue i).params = s.params := rfl
@[simp] theorem State.enqueue_events (s : State) (i : TakeIx) : (s.enqueue i).events = s.events := rfl
@[simp] theorem State.enqueue_masks (s : State) (i : TakeIx) : (s.enqueue i).masks = s.masks := rfl
@[simp] theorem State.enqueue_slot (s : State) (i : TakeIx) : (s.enqueue i).slot = s.slot := rfl
@[simp] theorem State.enqueue_round (s : State) (i : TakeIx) : (s.enqueue i).round = s.round := rfl
@[simp] theorem State.enqueue_inFlight (s : State) (i : TakeIx) : (s.enqueue i).inFlight = s.inFlight := rfl
@[simp] theorem State.enqueue_ltx (s : State) (i : TakeIx) : (s.enqueue i).ltx = s.ltx := rfl
@[simp] theorem State.enqueue_miso (s : State) (i : TakeIx) : (s.enqueue i).miso = s.miso := rfl
@[simp] theorem State.enqueue_passDue (s : State) (i : TakeIx) : (s.enqueue i).passDue = true := rfl
@[simp] theorem State.enqueue_pending (s : State) (i : TakeIx) : (s.enqueue i).pending = s.pending := rfl
@[simp] theorem State.enqueue_take (s : State) (i : TakeIx) (i' : TakeIx) : (s.enqueue i).take i' = s.take i' := rfl
@[simp] theorem State.enqueue_session (s : State) (i : TakeIx) (x : SessionIx) : (s.enqueue i).session x = s.session x := rfl
@[simp] theorem State.enqueue_console (s : State) (i : TakeIx) (c : ConsoleIx) : (s.enqueue i).console c = s.console c := rfl
@[simp] theorem State.enqueue_typist (s : State) (i : TakeIx) (t : TypistIx) : (s.enqueue i).typist t = s.typist t := rfl
@[simp] theorem State.enqueue_drop (s : State) (i : TakeIx) (d : DropIx) : (s.enqueue i).drop d = s.drop d := rfl
@[simp] theorem State.enqueue_clearance (s : State) (i : TakeIx) (d : DropIx) : (s.enqueue i).clearance d = s.clearance d := rfl

/-! ### dequeue -/

@[simp] theorem State.dequeue_officeTime (s : State) (i : TakeIx) : (s.dequeue i).officeTime = s.officeTime := rfl
@[simp] theorem State.dequeue_takes (s : State) (i : TakeIx) : (s.dequeue i).takes = s.takes := rfl
@[simp] theorem State.dequeue_sessions (s : State) (i : TakeIx) : (s.dequeue i).sessions = s.sessions := rfl
@[simp] theorem State.dequeue_consoles (s : State) (i : TakeIx) : (s.dequeue i).consoles = s.consoles := rfl
@[simp] theorem State.dequeue_typists (s : State) (i : TakeIx) : (s.dequeue i).typists = s.typists := rfl
@[simp] theorem State.dequeue_drops (s : State) (i : TakeIx) : (s.dequeue i).drops = s.drops := rfl
@[simp] theorem State.dequeue_clearances (s : State) (i : TakeIx) : (s.dequeue i).clearances = s.clearances := rfl
@[simp] theorem State.dequeue_clearanceLock (s : State) (i : TakeIx) : (s.dequeue i).clearanceLock = s.clearanceLock := rfl
@[simp] theorem State.dequeue_auditFailure (s : State) (i : TakeIx) : (s.dequeue i).auditFailure = s.auditFailure := rfl
@[simp] theorem State.dequeue_auditCountdown (s : State) (i : TakeIx) : (s.dequeue i).auditCountdown = s.auditCountdown := rfl
@[simp] theorem State.dequeue_lastAuditSum (s : State) (i : TakeIx) : (s.dequeue i).lastAuditSum = s.lastAuditSum := rfl
@[simp] theorem State.dequeue_queue (s : State) (i : TakeIx) : (s.dequeue i).queue = removeEntry i s.queue := rfl
@[simp] theorem State.dequeue_serialCounter (s : State) (i : TakeIx) : (s.dequeue i).serialCounter = s.serialCounter := rfl
@[simp] theorem State.dequeue_params (s : State) (i : TakeIx) : (s.dequeue i).params = s.params := rfl
@[simp] theorem State.dequeue_events (s : State) (i : TakeIx) : (s.dequeue i).events = s.events := rfl
@[simp] theorem State.dequeue_masks (s : State) (i : TakeIx) : (s.dequeue i).masks = s.masks := rfl
@[simp] theorem State.dequeue_slot (s : State) (i : TakeIx) : (s.dequeue i).slot = s.slot := rfl
@[simp] theorem State.dequeue_round (s : State) (i : TakeIx) : (s.dequeue i).round = s.round := rfl
@[simp] theorem State.dequeue_inFlight (s : State) (i : TakeIx) : (s.dequeue i).inFlight = s.inFlight := rfl
@[simp] theorem State.dequeue_ltx (s : State) (i : TakeIx) : (s.dequeue i).ltx = s.ltx := rfl
@[simp] theorem State.dequeue_miso (s : State) (i : TakeIx) : (s.dequeue i).miso = s.miso := rfl
@[simp] theorem State.dequeue_passDue (s : State) (i : TakeIx) : (s.dequeue i).passDue = s.passDue := rfl
@[simp] theorem State.dequeue_pending (s : State) (i : TakeIx) : (s.dequeue i).pending = s.pending := rfl
@[simp] theorem State.dequeue_take (s : State) (i : TakeIx) (i' : TakeIx) : (s.dequeue i).take i' = s.take i' := rfl
@[simp] theorem State.dequeue_session (s : State) (i : TakeIx) (x : SessionIx) : (s.dequeue i).session x = s.session x := rfl
@[simp] theorem State.dequeue_console (s : State) (i : TakeIx) (c : ConsoleIx) : (s.dequeue i).console c = s.console c := rfl
@[simp] theorem State.dequeue_typist (s : State) (i : TakeIx) (t : TypistIx) : (s.dequeue i).typist t = s.typist t := rfl
@[simp] theorem State.dequeue_drop (s : State) (i : TakeIx) (d : DropIx) : (s.dequeue i).drop d = s.drop d := rfl
@[simp] theorem State.dequeue_clearance (s : State) (i : TakeIx) (d : DropIx) : (s.dequeue i).clearance d = s.clearance d := rfl

/-! ### rebuildQueue -/

@[simp] theorem State.rebuildQueue_officeTime (s : State) : (s.rebuildQueue).officeTime = s.officeTime := rfl
@[simp] theorem State.rebuildQueue_takes (s : State) : (s.rebuildQueue).takes = s.takes := rfl
@[simp] theorem State.rebuildQueue_sessions (s : State) : (s.rebuildQueue).sessions = s.sessions := rfl
@[simp] theorem State.rebuildQueue_consoles (s : State) : (s.rebuildQueue).consoles = s.consoles := rfl
@[simp] theorem State.rebuildQueue_typists (s : State) : (s.rebuildQueue).typists = s.typists := rfl
@[simp] theorem State.rebuildQueue_drops (s : State) : (s.rebuildQueue).drops = s.drops := rfl
@[simp] theorem State.rebuildQueue_clearances (s : State) : (s.rebuildQueue).clearances = s.clearances := rfl
@[simp] theorem State.rebuildQueue_clearanceLock (s : State) : (s.rebuildQueue).clearanceLock = s.clearanceLock := rfl
@[simp] theorem State.rebuildQueue_auditFailure (s : State) : (s.rebuildQueue).auditFailure = s.auditFailure := rfl
@[simp] theorem State.rebuildQueue_auditCountdown (s : State) : (s.rebuildQueue).auditCountdown = s.auditCountdown := rfl
@[simp] theorem State.rebuildQueue_lastAuditSum (s : State) : (s.rebuildQueue).lastAuditSum = s.lastAuditSum := rfl
@[simp] theorem State.rebuildQueue_serialCounter (s : State) : (s.rebuildQueue).serialCounter = s.serialCounter := rfl
@[simp] theorem State.rebuildQueue_params (s : State) : (s.rebuildQueue).params = s.params := rfl
@[simp] theorem State.rebuildQueue_events (s : State) : (s.rebuildQueue).events = s.events := rfl
@[simp] theorem State.rebuildQueue_masks (s : State) : (s.rebuildQueue).masks = s.masks := rfl
@[simp] theorem State.rebuildQueue_slot (s : State) : (s.rebuildQueue).slot = s.slot := rfl
@[simp] theorem State.rebuildQueue_round (s : State) : (s.rebuildQueue).round = s.round := rfl
@[simp] theorem State.rebuildQueue_inFlight (s : State) : (s.rebuildQueue).inFlight = s.inFlight := rfl
@[simp] theorem State.rebuildQueue_ltx (s : State) : (s.rebuildQueue).ltx = s.ltx := rfl
@[simp] theorem State.rebuildQueue_miso (s : State) : (s.rebuildQueue).miso = s.miso := rfl
@[simp] theorem State.rebuildQueue_passDue (s : State) : (s.rebuildQueue).passDue = s.passDue := rfl
@[simp] theorem State.rebuildQueue_pending (s : State) : (s.rebuildQueue).pending = s.pending := rfl
@[simp] theorem State.rebuildQueue_take (s : State) (i : TakeIx) : (s.rebuildQueue).take i = s.take i := rfl
@[simp] theorem State.rebuildQueue_session (s : State) (x : SessionIx) : (s.rebuildQueue).session x = s.session x := rfl
@[simp] theorem State.rebuildQueue_console (s : State) (c : ConsoleIx) : (s.rebuildQueue).console c = s.console c := rfl
@[simp] theorem State.rebuildQueue_typist (s : State) (t : TypistIx) : (s.rebuildQueue).typist t = s.typist t := rfl
@[simp] theorem State.rebuildQueue_drop (s : State) (d : DropIx) : (s.rebuildQueue).drop d = s.drop d := rfl
@[simp] theorem State.rebuildQueue_clearance (s : State) (d : DropIx) : (s.rebuildQueue).clearance d = s.clearance d := rfl

/-! ### giveSerial -/

@[simp] theorem State.giveSerial_officeTime (s : State) (i : TakeIx) : (s.giveSerial i).officeTime = s.officeTime := rfl
@[simp] theorem State.giveSerial_sessions (s : State) (i : TakeIx) : (s.giveSerial i).sessions = s.sessions := rfl
@[simp] theorem State.giveSerial_consoles (s : State) (i : TakeIx) : (s.giveSerial i).consoles = s.consoles := rfl
@[simp] theorem State.giveSerial_typists (s : State) (i : TakeIx) : (s.giveSerial i).typists = s.typists := rfl
@[simp] theorem State.giveSerial_drops (s : State) (i : TakeIx) : (s.giveSerial i).drops = s.drops := rfl
@[simp] theorem State.giveSerial_clearances (s : State) (i : TakeIx) : (s.giveSerial i).clearances = s.clearances := rfl
@[simp] theorem State.giveSerial_clearanceLock (s : State) (i : TakeIx) : (s.giveSerial i).clearanceLock = s.clearanceLock := rfl
@[simp] theorem State.giveSerial_auditFailure (s : State) (i : TakeIx) : (s.giveSerial i).auditFailure = s.auditFailure := rfl
@[simp] theorem State.giveSerial_auditCountdown (s : State) (i : TakeIx) : (s.giveSerial i).auditCountdown = s.auditCountdown := rfl
@[simp] theorem State.giveSerial_lastAuditSum (s : State) (i : TakeIx) : (s.giveSerial i).lastAuditSum = s.lastAuditSum := rfl
@[simp] theorem State.giveSerial_queue (s : State) (i : TakeIx) : (s.giveSerial i).queue = s.queue := rfl
@[simp] theorem State.giveSerial_serialCounter (s : State) (i : TakeIx) : (s.giveSerial i).serialCounter = (s.serialCounter + 1) % Config.serialValues := rfl
@[simp] theorem State.giveSerial_params (s : State) (i : TakeIx) : (s.giveSerial i).params = s.params := rfl
@[simp] theorem State.giveSerial_events (s : State) (i : TakeIx) : (s.giveSerial i).events = s.events := rfl
@[simp] theorem State.giveSerial_masks (s : State) (i : TakeIx) : (s.giveSerial i).masks = s.masks := rfl
@[simp] theorem State.giveSerial_slot (s : State) (i : TakeIx) : (s.giveSerial i).slot = s.slot := rfl
@[simp] theorem State.giveSerial_round (s : State) (i : TakeIx) : (s.giveSerial i).round = s.round := rfl
@[simp] theorem State.giveSerial_inFlight (s : State) (i : TakeIx) : (s.giveSerial i).inFlight = s.inFlight := rfl
@[simp] theorem State.giveSerial_ltx (s : State) (i : TakeIx) : (s.giveSerial i).ltx = s.ltx := rfl
@[simp] theorem State.giveSerial_miso (s : State) (i : TakeIx) : (s.giveSerial i).miso = s.miso := rfl
@[simp] theorem State.giveSerial_passDue (s : State) (i : TakeIx) : (s.giveSerial i).passDue = s.passDue := rfl
@[simp] theorem State.giveSerial_pending (s : State) (i : TakeIx) : (s.giveSerial i).pending = s.pending := rfl
@[simp] theorem State.giveSerial_session (s : State) (i : TakeIx) (x : SessionIx) : (s.giveSerial i).session x = s.session x := rfl
@[simp] theorem State.giveSerial_console (s : State) (i : TakeIx) (c : ConsoleIx) : (s.giveSerial i).console c = s.console c := rfl
@[simp] theorem State.giveSerial_typist (s : State) (i : TakeIx) (t : TypistIx) : (s.giveSerial i).typist t = s.typist t := rfl
@[simp] theorem State.giveSerial_drop (s : State) (i : TakeIx) (d : DropIx) : (s.giveSerial i).drop d = s.drop d := rfl
@[simp] theorem State.giveSerial_clearance (s : State) (i : TakeIx) (d : DropIx) : (s.giveSerial i).clearance d = s.clearance d := rfl

/-! ### setRound -/

@[simp] theorem State.setRound_officeTime (s : State) (r : Option Nat) : (s.setRound r).officeTime = s.officeTime := rfl
@[simp] theorem State.setRound_takes (s : State) (r : Option Nat) : (s.setRound r).takes = s.takes := rfl
@[simp] theorem State.setRound_sessions (s : State) (r : Option Nat) : (s.setRound r).sessions = s.sessions := rfl
@[simp] theorem State.setRound_consoles (s : State) (r : Option Nat) : (s.setRound r).consoles = s.consoles := rfl
@[simp] theorem State.setRound_typists (s : State) (r : Option Nat) : (s.setRound r).typists = s.typists := rfl
@[simp] theorem State.setRound_drops (s : State) (r : Option Nat) : (s.setRound r).drops = s.drops := rfl
@[simp] theorem State.setRound_clearances (s : State) (r : Option Nat) : (s.setRound r).clearances = s.clearances := rfl
@[simp] theorem State.setRound_clearanceLock (s : State) (r : Option Nat) : (s.setRound r).clearanceLock = s.clearanceLock := rfl
@[simp] theorem State.setRound_auditFailure (s : State) (r : Option Nat) : (s.setRound r).auditFailure = s.auditFailure := rfl
@[simp] theorem State.setRound_auditCountdown (s : State) (r : Option Nat) : (s.setRound r).auditCountdown = s.auditCountdown := rfl
@[simp] theorem State.setRound_lastAuditSum (s : State) (r : Option Nat) : (s.setRound r).lastAuditSum = s.lastAuditSum := rfl
@[simp] theorem State.setRound_queue (s : State) (r : Option Nat) : (s.setRound r).queue = s.queue := rfl
@[simp] theorem State.setRound_serialCounter (s : State) (r : Option Nat) : (s.setRound r).serialCounter = s.serialCounter := rfl
@[simp] theorem State.setRound_params (s : State) (r : Option Nat) : (s.setRound r).params = s.params := rfl
@[simp] theorem State.setRound_events (s : State) (r : Option Nat) : (s.setRound r).events = s.events := rfl
@[simp] theorem State.setRound_masks (s : State) (r : Option Nat) : (s.setRound r).masks = s.masks := rfl
@[simp] theorem State.setRound_slot (s : State) (r : Option Nat) : (s.setRound r).slot = s.slot := rfl
@[simp] theorem State.setRound_round (s : State) (r : Option Nat) : (s.setRound r).round = r := rfl
@[simp] theorem State.setRound_inFlight (s : State) (r : Option Nat) : (s.setRound r).inFlight = s.inFlight := rfl
@[simp] theorem State.setRound_ltx (s : State) (r : Option Nat) : (s.setRound r).ltx = s.ltx := rfl
@[simp] theorem State.setRound_miso (s : State) (r : Option Nat) : (s.setRound r).miso = s.miso := rfl
@[simp] theorem State.setRound_passDue (s : State) (r : Option Nat) : (s.setRound r).passDue = s.passDue := rfl
@[simp] theorem State.setRound_pending (s : State) (r : Option Nat) : (s.setRound r).pending = s.pending := rfl
@[simp] theorem State.setRound_take (s : State) (r : Option Nat) (i : TakeIx) : (s.setRound r).take i = s.take i := rfl
@[simp] theorem State.setRound_session (s : State) (r : Option Nat) (x : SessionIx) : (s.setRound r).session x = s.session x := rfl
@[simp] theorem State.setRound_console (s : State) (r : Option Nat) (c : ConsoleIx) : (s.setRound r).console c = s.console c := rfl
@[simp] theorem State.setRound_typist (s : State) (r : Option Nat) (t : TypistIx) : (s.setRound r).typist t = s.typist t := rfl
@[simp] theorem State.setRound_drop (s : State) (r : Option Nat) (d : DropIx) : (s.setRound r).drop d = s.drop d := rfl
@[simp] theorem State.setRound_clearance (s : State) (r : Option Nat) (d : DropIx) : (s.setRound r).clearance d = s.clearance d := rfl

/-! ### setCountdown -/

@[simp] theorem State.setCountdown_officeTime (s : State) (n : Option Nat) : (s.setCountdown n).officeTime = s.officeTime := rfl
@[simp] theorem State.setCountdown_takes (s : State) (n : Option Nat) : (s.setCountdown n).takes = s.takes := rfl
@[simp] theorem State.setCountdown_sessions (s : State) (n : Option Nat) : (s.setCountdown n).sessions = s.sessions := rfl
@[simp] theorem State.setCountdown_consoles (s : State) (n : Option Nat) : (s.setCountdown n).consoles = s.consoles := rfl
@[simp] theorem State.setCountdown_typists (s : State) (n : Option Nat) : (s.setCountdown n).typists = s.typists := rfl
@[simp] theorem State.setCountdown_drops (s : State) (n : Option Nat) : (s.setCountdown n).drops = s.drops := rfl
@[simp] theorem State.setCountdown_clearances (s : State) (n : Option Nat) : (s.setCountdown n).clearances = s.clearances := rfl
@[simp] theorem State.setCountdown_clearanceLock (s : State) (n : Option Nat) : (s.setCountdown n).clearanceLock = s.clearanceLock := rfl
@[simp] theorem State.setCountdown_auditFailure (s : State) (n : Option Nat) : (s.setCountdown n).auditFailure = s.auditFailure := rfl
@[simp] theorem State.setCountdown_auditCountdown (s : State) (n : Option Nat) : (s.setCountdown n).auditCountdown = n := rfl
@[simp] theorem State.setCountdown_lastAuditSum (s : State) (n : Option Nat) : (s.setCountdown n).lastAuditSum = s.lastAuditSum := rfl
@[simp] theorem State.setCountdown_queue (s : State) (n : Option Nat) : (s.setCountdown n).queue = s.queue := rfl
@[simp] theorem State.setCountdown_serialCounter (s : State) (n : Option Nat) : (s.setCountdown n).serialCounter = s.serialCounter := rfl
@[simp] theorem State.setCountdown_params (s : State) (n : Option Nat) : (s.setCountdown n).params = s.params := rfl
@[simp] theorem State.setCountdown_events (s : State) (n : Option Nat) : (s.setCountdown n).events = s.events := rfl
@[simp] theorem State.setCountdown_masks (s : State) (n : Option Nat) : (s.setCountdown n).masks = s.masks := rfl
@[simp] theorem State.setCountdown_slot (s : State) (n : Option Nat) : (s.setCountdown n).slot = s.slot := rfl
@[simp] theorem State.setCountdown_round (s : State) (n : Option Nat) : (s.setCountdown n).round = s.round := rfl
@[simp] theorem State.setCountdown_inFlight (s : State) (n : Option Nat) : (s.setCountdown n).inFlight = s.inFlight := rfl
@[simp] theorem State.setCountdown_ltx (s : State) (n : Option Nat) : (s.setCountdown n).ltx = s.ltx := rfl
@[simp] theorem State.setCountdown_miso (s : State) (n : Option Nat) : (s.setCountdown n).miso = s.miso := rfl
@[simp] theorem State.setCountdown_passDue (s : State) (n : Option Nat) : (s.setCountdown n).passDue = s.passDue := rfl
@[simp] theorem State.setCountdown_pending (s : State) (n : Option Nat) : (s.setCountdown n).pending = s.pending := rfl
@[simp] theorem State.setCountdown_take (s : State) (n : Option Nat) (i : TakeIx) : (s.setCountdown n).take i = s.take i := rfl
@[simp] theorem State.setCountdown_session (s : State) (n : Option Nat) (x : SessionIx) : (s.setCountdown n).session x = s.session x := rfl
@[simp] theorem State.setCountdown_console (s : State) (n : Option Nat) (c : ConsoleIx) : (s.setCountdown n).console c = s.console c := rfl
@[simp] theorem State.setCountdown_typist (s : State) (n : Option Nat) (t : TypistIx) : (s.setCountdown n).typist t = s.typist t := rfl
@[simp] theorem State.setCountdown_drop (s : State) (n : Option Nat) (d : DropIx) : (s.setCountdown n).drop d = s.drop d := rfl
@[simp] theorem State.setCountdown_clearance (s : State) (n : Option Nat) (d : DropIx) : (s.setCountdown n).clearance d = s.clearance d := rfl

/-! ### putParam -/

@[simp] theorem State.putParam_officeTime (s : State) (n v : Nat) : (s.putParam n v).officeTime = s.officeTime := rfl
@[simp] theorem State.putParam_takes (s : State) (n v : Nat) : (s.putParam n v).takes = s.takes := rfl
@[simp] theorem State.putParam_sessions (s : State) (n v : Nat) : (s.putParam n v).sessions = s.sessions := rfl
@[simp] theorem State.putParam_consoles (s : State) (n v : Nat) : (s.putParam n v).consoles = s.consoles := rfl
@[simp] theorem State.putParam_typists (s : State) (n v : Nat) : (s.putParam n v).typists = s.typists := rfl
@[simp] theorem State.putParam_drops (s : State) (n v : Nat) : (s.putParam n v).drops = s.drops := rfl
@[simp] theorem State.putParam_clearances (s : State) (n v : Nat) : (s.putParam n v).clearances = s.clearances := rfl
@[simp] theorem State.putParam_clearanceLock (s : State) (n v : Nat) : (s.putParam n v).clearanceLock = s.clearanceLock := rfl
@[simp] theorem State.putParam_auditFailure (s : State) (n v : Nat) : (s.putParam n v).auditFailure = s.auditFailure := rfl
@[simp] theorem State.putParam_auditCountdown (s : State) (n v : Nat) : (s.putParam n v).auditCountdown = s.auditCountdown := rfl
@[simp] theorem State.putParam_lastAuditSum (s : State) (n v : Nat) : (s.putParam n v).lastAuditSum = s.lastAuditSum := rfl
@[simp] theorem State.putParam_queue (s : State) (n v : Nat) : (s.putParam n v).queue = s.queue := rfl
@[simp] theorem State.putParam_serialCounter (s : State) (n v : Nat) : (s.putParam n v).serialCounter = s.serialCounter := rfl
@[simp] theorem State.putParam_params (s : State) (n v : Nat) : (s.putParam n v).params = s.params.put n v := rfl
@[simp] theorem State.putParam_events (s : State) (n v : Nat) : (s.putParam n v).events = s.events := rfl
@[simp] theorem State.putParam_masks (s : State) (n v : Nat) : (s.putParam n v).masks = s.masks := rfl
@[simp] theorem State.putParam_slot (s : State) (n v : Nat) : (s.putParam n v).slot = s.slot := rfl
@[simp] theorem State.putParam_round (s : State) (n v : Nat) : (s.putParam n v).round = s.round := rfl
@[simp] theorem State.putParam_inFlight (s : State) (n v : Nat) : (s.putParam n v).inFlight = s.inFlight := rfl
@[simp] theorem State.putParam_ltx (s : State) (n v : Nat) : (s.putParam n v).ltx = s.ltx := rfl
@[simp] theorem State.putParam_miso (s : State) (n v : Nat) : (s.putParam n v).miso = s.miso := rfl
@[simp] theorem State.putParam_passDue (s : State) (n v : Nat) : (s.putParam n v).passDue = s.passDue := rfl
@[simp] theorem State.putParam_pending (s : State) (n v : Nat) : (s.putParam n v).pending = s.pending := rfl
@[simp] theorem State.putParam_take (s : State) (n v : Nat) (i : TakeIx) : (s.putParam n v).take i = s.take i := rfl
@[simp] theorem State.putParam_session (s : State) (n v : Nat) (x : SessionIx) : (s.putParam n v).session x = s.session x := rfl
@[simp] theorem State.putParam_console (s : State) (n v : Nat) (c : ConsoleIx) : (s.putParam n v).console c = s.console c := rfl
@[simp] theorem State.putParam_typist (s : State) (n v : Nat) (t : TypistIx) : (s.putParam n v).typist t = s.typist t := rfl
@[simp] theorem State.putParam_drop (s : State) (n v : Nat) (d : DropIx) : (s.putParam n v).drop d = s.drop d := rfl
@[simp] theorem State.putParam_clearance (s : State) (n v : Nat) (d : DropIx) : (s.putParam n v).clearance d = s.clearance d := rfl

/-! ### capRollCalls -/

@[simp] theorem State.capRollCalls_officeTime (s : State) : (s.capRollCalls).officeTime = s.officeTime := rfl
@[simp] theorem State.capRollCalls_takes (s : State) : (s.capRollCalls).takes = s.takes := rfl
@[simp] theorem State.capRollCalls_sessions (s : State) : (s.capRollCalls).sessions = s.sessions := rfl
@[simp] theorem State.capRollCalls_consoles (s : State) : (s.capRollCalls).consoles = s.consoles := rfl
@[simp] theorem State.capRollCalls_typists (s : State) : (s.capRollCalls).typists = s.typists := rfl
@[simp] theorem State.capRollCalls_clearances (s : State) : (s.capRollCalls).clearances = s.clearances := rfl
@[simp] theorem State.capRollCalls_clearanceLock (s : State) : (s.capRollCalls).clearanceLock = s.clearanceLock := rfl
@[simp] theorem State.capRollCalls_auditFailure (s : State) : (s.capRollCalls).auditFailure = s.auditFailure := rfl
@[simp] theorem State.capRollCalls_auditCountdown (s : State) : (s.capRollCalls).auditCountdown = s.auditCountdown := rfl
@[simp] theorem State.capRollCalls_lastAuditSum (s : State) : (s.capRollCalls).lastAuditSum = s.lastAuditSum := rfl
@[simp] theorem State.capRollCalls_queue (s : State) : (s.capRollCalls).queue = s.queue := rfl
@[simp] theorem State.capRollCalls_serialCounter (s : State) : (s.capRollCalls).serialCounter = s.serialCounter := rfl
@[simp] theorem State.capRollCalls_params (s : State) : (s.capRollCalls).params = s.params := rfl
@[simp] theorem State.capRollCalls_events (s : State) : (s.capRollCalls).events = s.events := rfl
@[simp] theorem State.capRollCalls_masks (s : State) : (s.capRollCalls).masks = s.masks := rfl
@[simp] theorem State.capRollCalls_slot (s : State) : (s.capRollCalls).slot = s.slot := rfl
@[simp] theorem State.capRollCalls_round (s : State) : (s.capRollCalls).round = s.round := rfl
@[simp] theorem State.capRollCalls_inFlight (s : State) : (s.capRollCalls).inFlight = s.inFlight := rfl
@[simp] theorem State.capRollCalls_ltx (s : State) : (s.capRollCalls).ltx = s.ltx := rfl
@[simp] theorem State.capRollCalls_miso (s : State) : (s.capRollCalls).miso = s.miso := rfl
@[simp] theorem State.capRollCalls_passDue (s : State) : (s.capRollCalls).passDue = s.passDue := rfl
@[simp] theorem State.capRollCalls_pending (s : State) : (s.capRollCalls).pending = s.pending := rfl
@[simp] theorem State.capRollCalls_take (s : State) (i : TakeIx) : (s.capRollCalls).take i = s.take i := rfl
@[simp] theorem State.capRollCalls_session (s : State) (x : SessionIx) : (s.capRollCalls).session x = s.session x := rfl
@[simp] theorem State.capRollCalls_console (s : State) (c : ConsoleIx) : (s.capRollCalls).console c = s.console c := rfl
@[simp] theorem State.capRollCalls_typist (s : State) (t : TypistIx) : (s.capRollCalls).typist t = s.typist t := rfl
@[simp] theorem State.capRollCalls_clearance (s : State) (d : DropIx) : (s.capRollCalls).clearance d = s.clearance d := rfl

/-! ### respond -/

@[simp] theorem State.respond_officeTime (s : State) (a : Answer) : (s.respond a).officeTime = s.officeTime := rfl
@[simp] theorem State.respond_takes (s : State) (a : Answer) : (s.respond a).takes = s.takes := rfl
@[simp] theorem State.respond_sessions (s : State) (a : Answer) : (s.respond a).sessions = s.sessions := rfl
@[simp] theorem State.respond_consoles (s : State) (a : Answer) : (s.respond a).consoles = s.consoles := rfl
@[simp] theorem State.respond_typists (s : State) (a : Answer) : (s.respond a).typists = s.typists := rfl
@[simp] theorem State.respond_drops (s : State) (a : Answer) : (s.respond a).drops = s.drops := rfl
@[simp] theorem State.respond_clearances (s : State) (a : Answer) : (s.respond a).clearances = s.clearances := rfl
@[simp] theorem State.respond_clearanceLock (s : State) (a : Answer) : (s.respond a).clearanceLock = s.clearanceLock := rfl
@[simp] theorem State.respond_auditFailure (s : State) (a : Answer) : (s.respond a).auditFailure = s.auditFailure := rfl
@[simp] theorem State.respond_auditCountdown (s : State) (a : Answer) : (s.respond a).auditCountdown = s.auditCountdown := rfl
@[simp] theorem State.respond_lastAuditSum (s : State) (a : Answer) : (s.respond a).lastAuditSum = s.lastAuditSum := rfl
@[simp] theorem State.respond_queue (s : State) (a : Answer) : (s.respond a).queue = s.queue := rfl
@[simp] theorem State.respond_serialCounter (s : State) (a : Answer) : (s.respond a).serialCounter = s.serialCounter := rfl
@[simp] theorem State.respond_params (s : State) (a : Answer) : (s.respond a).params = s.params := rfl
@[simp] theorem State.respond_events (s : State) (a : Answer) : (s.respond a).events = s.events := rfl
@[simp] theorem State.respond_masks (s : State) (a : Answer) : (s.respond a).masks = s.masks := rfl
@[simp] theorem State.respond_slot (s : State) (a : Answer) : (s.respond a).slot = .responseWaiting a := rfl
@[simp] theorem State.respond_round (s : State) (a : Answer) : (s.respond a).round = s.round := rfl
@[simp] theorem State.respond_inFlight (s : State) (a : Answer) : (s.respond a).inFlight = s.inFlight := rfl
@[simp] theorem State.respond_ltx (s : State) (a : Answer) : (s.respond a).ltx = s.ltx := rfl
@[simp] theorem State.respond_miso (s : State) (a : Answer) : (s.respond a).miso = s.miso := rfl
@[simp] theorem State.respond_passDue (s : State) (a : Answer) : (s.respond a).passDue = s.passDue := rfl
@[simp] theorem State.respond_pending (s : State) (a : Answer) : (s.respond a).pending = s.pending := rfl
@[simp] theorem State.respond_take (s : State) (a : Answer) (i : TakeIx) : (s.respond a).take i = s.take i := rfl
@[simp] theorem State.respond_session (s : State) (a : Answer) (x : SessionIx) : (s.respond a).session x = s.session x := rfl
@[simp] theorem State.respond_console (s : State) (a : Answer) (c : ConsoleIx) : (s.respond a).console c = s.console c := rfl
@[simp] theorem State.respond_typist (s : State) (a : Answer) (t : TypistIx) : (s.respond a).typist t = s.typist t := rfl
@[simp] theorem State.respond_drop (s : State) (a : Answer) (d : DropIx) : (s.respond a).drop d = s.drop d := rfl
@[simp] theorem State.respond_clearance (s : State) (a : Answer) (d : DropIx) : (s.respond a).clearance d = s.clearance d := rfl

/-! ### withPending -/

@[simp] theorem State.withPending_officeTime (s : State) (q : List Instr) : (s.withPending q).officeTime = s.officeTime := rfl
@[simp] theorem State.withPending_takes (s : State) (q : List Instr) : (s.withPending q).takes = s.takes := rfl
@[simp] theorem State.withPending_sessions (s : State) (q : List Instr) : (s.withPending q).sessions = s.sessions := rfl
@[simp] theorem State.withPending_consoles (s : State) (q : List Instr) : (s.withPending q).consoles = s.consoles := rfl
@[simp] theorem State.withPending_typists (s : State) (q : List Instr) : (s.withPending q).typists = s.typists := rfl
@[simp] theorem State.withPending_drops (s : State) (q : List Instr) : (s.withPending q).drops = s.drops := rfl
@[simp] theorem State.withPending_clearances (s : State) (q : List Instr) : (s.withPending q).clearances = s.clearances := rfl
@[simp] theorem State.withPending_clearanceLock (s : State) (q : List Instr) : (s.withPending q).clearanceLock = s.clearanceLock := rfl
@[simp] theorem State.withPending_auditFailure (s : State) (q : List Instr) : (s.withPending q).auditFailure = s.auditFailure := rfl
@[simp] theorem State.withPending_auditCountdown (s : State) (q : List Instr) : (s.withPending q).auditCountdown = s.auditCountdown := rfl
@[simp] theorem State.withPending_lastAuditSum (s : State) (q : List Instr) : (s.withPending q).lastAuditSum = s.lastAuditSum := rfl
@[simp] theorem State.withPending_queue (s : State) (q : List Instr) : (s.withPending q).queue = s.queue := rfl
@[simp] theorem State.withPending_serialCounter (s : State) (q : List Instr) : (s.withPending q).serialCounter = s.serialCounter := rfl
@[simp] theorem State.withPending_params (s : State) (q : List Instr) : (s.withPending q).params = s.params := rfl
@[simp] theorem State.withPending_events (s : State) (q : List Instr) : (s.withPending q).events = s.events := rfl
@[simp] theorem State.withPending_masks (s : State) (q : List Instr) : (s.withPending q).masks = s.masks := rfl
@[simp] theorem State.withPending_slot (s : State) (q : List Instr) : (s.withPending q).slot = s.slot := rfl
@[simp] theorem State.withPending_round (s : State) (q : List Instr) : (s.withPending q).round = s.round := rfl
@[simp] theorem State.withPending_inFlight (s : State) (q : List Instr) : (s.withPending q).inFlight = s.inFlight := rfl
@[simp] theorem State.withPending_ltx (s : State) (q : List Instr) : (s.withPending q).ltx = s.ltx := rfl
@[simp] theorem State.withPending_miso (s : State) (q : List Instr) : (s.withPending q).miso = s.miso := rfl
@[simp] theorem State.withPending_passDue (s : State) (q : List Instr) : (s.withPending q).passDue = s.passDue := rfl
@[simp] theorem State.withPending_pending (s : State) (q : List Instr) : (s.withPending q).pending = q := rfl
@[simp] theorem State.withPending_take (s : State) (q : List Instr) (i : TakeIx) : (s.withPending q).take i = s.take i := rfl
@[simp] theorem State.withPending_session (s : State) (q : List Instr) (x : SessionIx) : (s.withPending q).session x = s.session x := rfl
@[simp] theorem State.withPending_console (s : State) (q : List Instr) (c : ConsoleIx) : (s.withPending q).console c = s.console c := rfl
@[simp] theorem State.withPending_typist (s : State) (q : List Instr) (t : TypistIx) : (s.withPending q).typist t = s.typist t := rfl
@[simp] theorem State.withPending_drop (s : State) (q : List Instr) (d : DropIx) : (s.withPending q).drop d = s.drop d := rfl
@[simp] theorem State.withPending_clearance (s : State) (q : List Instr) (d : DropIx) : (s.withPending q).clearance d = s.clearance d := rfl

/-! ### A record after it is written -/

@[simp] theorem State.take_setTake_self (s : State) (i : TakeIx) (k : Take) : (s.setTake i k).take i = k := by
  simp [State.take, State.setTake]

@[simp] theorem State.take_modTake_self (s : State) (i : TakeIx) (f : Take → Take) :
    (s.modTake i f).take i = f (s.take i) := by simp [State.modTake]

theorem State.take_setTake (s : State) (i j : TakeIx) (k : Take) :
    (s.setTake i k).take j = if j = i then k else s.take j := by
  by_cases h : j = i
  · subst h; simp
  · have : i.val ≠ j.val := fun e => h (Fin.ext e.symm)
    simp [State.take, State.setTake, h, this]

theorem State.take_modTake (s : State) (i j : TakeIx) (f : Take → Take) :
    (s.modTake i f).take j = if j = i then f (s.take i) else s.take j := by
  simp [State.modTake, State.take_setTake]

@[simp] theorem State.take_setTake_ne (s : State) {i j : TakeIx} (k : Take) (h : j ≠ i) :
    (s.setTake i k).take j = s.take j := by simp [State.take_setTake, h]

@[simp] theorem State.take_modTake_ne (s : State) {i j : TakeIx} (f : Take → Take) (h : j ≠ i) :
    (s.modTake i f).take j = s.take j := by simp [State.take_modTake, h]

@[simp] theorem State.session_setSession_self (s : State) (x : SessionIx) (r : Session) : (s.setSession x r).session x = r := by
  simp [State.session, State.setSession]

@[simp] theorem State.session_modSession_self (s : State) (x : SessionIx) (f : Session → Session) :
    (s.modSession x f).session x = f (s.session x) := by simp [State.modSession]

theorem State.session_setSession (s : State) (x j : SessionIx) (r : Session) :
    (s.setSession x r).session j = if j = x then r else s.session j := by
  by_cases h : j = x
  · subst h; simp
  · have : x.val ≠ j.val := fun e => h (Fin.ext e.symm)
    simp [State.session, State.setSession, h, this]

theorem State.session_modSession (s : State) (x j : SessionIx) (f : Session → Session) :
    (s.modSession x f).session j = if j = x then f (s.session x) else s.session j := by
  simp [State.modSession, State.session_setSession]

@[simp] theorem State.session_setSession_ne (s : State) {x j : SessionIx} (r : Session) (h : j ≠ x) :
    (s.setSession x r).session j = s.session j := by simp [State.session_setSession, h]

@[simp] theorem State.session_modSession_ne (s : State) {x j : SessionIx} (f : Session → Session) (h : j ≠ x) :
    (s.modSession x f).session j = s.session j := by simp [State.session_modSession, h]

@[simp] theorem State.console_setConsole_self (s : State) (c : ConsoleIx) (r : Console) : (s.setConsole c r).console c = r := by
  simp [State.console, State.setConsole]

@[simp] theorem State.console_modConsole_self (s : State) (c : ConsoleIx) (f : Console → Console) :
    (s.modConsole c f).console c = f (s.console c) := by simp [State.modConsole]

theorem State.console_setConsole (s : State) (c j : ConsoleIx) (r : Console) :
    (s.setConsole c r).console j = if j = c then r else s.console j := by
  by_cases h : j = c
  · subst h; simp
  · have : c.val ≠ j.val := fun e => h (Fin.ext e.symm)
    simp [State.console, State.setConsole, h, this]

theorem State.console_modConsole (s : State) (c j : ConsoleIx) (f : Console → Console) :
    (s.modConsole c f).console j = if j = c then f (s.console c) else s.console j := by
  simp [State.modConsole, State.console_setConsole]

@[simp] theorem State.console_setConsole_ne (s : State) {c j : ConsoleIx} (r : Console) (h : j ≠ c) :
    (s.setConsole c r).console j = s.console j := by simp [State.console_setConsole, h]

@[simp] theorem State.console_modConsole_ne (s : State) {c j : ConsoleIx} (f : Console → Console) (h : j ≠ c) :
    (s.modConsole c f).console j = s.console j := by simp [State.console_modConsole, h]

@[simp] theorem State.typist_setTypist_self (s : State) (t : TypistIx) (r : Typist) : (s.setTypist t r).typist t = r := by
  simp [State.typist, State.setTypist]

@[simp] theorem State.typist_modTypist_self (s : State) (t : TypistIx) (f : Typist → Typist) :
    (s.modTypist t f).typist t = f (s.typist t) := by simp [State.modTypist]

theorem State.typist_setTypist (s : State) (t j : TypistIx) (r : Typist) :
    (s.setTypist t r).typist j = if j = t then r else s.typist j := by
  by_cases h : j = t
  · subst h; simp
  · have : t.val ≠ j.val := fun e => h (Fin.ext e.symm)
    simp [State.typist, State.setTypist, h, this]

theorem State.typist_modTypist (s : State) (t j : TypistIx) (f : Typist → Typist) :
    (s.modTypist t f).typist j = if j = t then f (s.typist t) else s.typist j := by
  simp [State.modTypist, State.typist_setTypist]

@[simp] theorem State.typist_setTypist_ne (s : State) {t j : TypistIx} (r : Typist) (h : j ≠ t) :
    (s.setTypist t r).typist j = s.typist j := by simp [State.typist_setTypist, h]

@[simp] theorem State.typist_modTypist_ne (s : State) {t j : TypistIx} (f : Typist → Typist) (h : j ≠ t) :
    (s.modTypist t f).typist j = s.typist j := by simp [State.typist_modTypist, h]

@[simp] theorem State.drop_setDrop_self (s : State) (d : DropIx) (r : Drop) : (s.setDrop d r).drop d = r := by
  simp [State.drop, State.setDrop]

@[simp] theorem State.drop_modDrop_self (s : State) (d : DropIx) (f : Drop → Drop) :
    (s.modDrop d f).drop d = f (s.drop d) := by simp [State.modDrop]

theorem State.drop_setDrop (s : State) (d j : DropIx) (r : Drop) :
    (s.setDrop d r).drop j = if j = d then r else s.drop j := by
  by_cases h : j = d
  · subst h; simp
  · have : d.val ≠ j.val := fun e => h (Fin.ext e.symm)
    simp [State.drop, State.setDrop, h, this]

theorem State.drop_modDrop (s : State) (d j : DropIx) (f : Drop → Drop) :
    (s.modDrop d f).drop j = if j = d then f (s.drop d) else s.drop j := by
  simp [State.modDrop, State.drop_setDrop]

@[simp] theorem State.drop_setDrop_ne (s : State) {d j : DropIx} (r : Drop) (h : j ≠ d) :
    (s.setDrop d r).drop j = s.drop j := by simp [State.drop_setDrop, h]

@[simp] theorem State.drop_modDrop_ne (s : State) {d j : DropIx} (f : Drop → Drop) (h : j ≠ d) :
    (s.modDrop d f).drop j = s.drop j := by simp [State.drop_modDrop, h]

theorem State.drop_setOut (s : State) (d j : DropIx) (q : List Message) :
    (s.setOut d q).drop j = if j = d then { s.drop d with out := q } else s.drop j := by
  simp [State.setOut, State.drop_modDrop]

theorem State.drop_removeOut (s : State) (d j : DropIx) (p : Message → Bool) :
    (s.removeOut d p).drop j =
      if j = d then { s.drop d with out := (s.drop d).out.filter (!p ·) } else s.drop j := by
  simp [State.removeOut, State.drop_setOut]

theorem State.take_giveSerial (s : State) (i j : TakeIx) :
    (s.giveSerial i).take j =
      if j = i then { s.take i with serial := some s.serialCounter } else s.take j :=
  State.take_modTake s i j (fun t => { t with serial := some s.serialCounter })

end Sys2Proof.Machine
end

