-- ==== Sys2Proof/Laws/Frames.lean ====
section
/-! SUPPORT. The frame of each shared operation and of each owner's work: every field of the state that it
leaves as it was. One lemma says it whole for one operation, so that no later proof unfolds it. -/

namespace Sys2Proof.Machine

/-- A fold whose every step keeps something keeps it. -/
theorem foldl_keeps {α β : Type} (p : State → β) (f : State → α → State) (h : ∀ s a, p (f s a) = p s)
    (l : List α) (s : State) : p (l.foldl f s) = p s := by
  induction l generalizing s with
  | nil => rfl
  | cons a l ih => exact (ih (f s a)).trans (h s a)

@[simp] theorem State.restatus_frame (s : State) (i : TakeIx) :
      (s.restatus i).officeTime = s.officeTime ∧
      (s.restatus i).sessions = s.sessions ∧
      (s.restatus i).consoles = s.consoles ∧
      (s.restatus i).typists = s.typists ∧
      (s.restatus i).drops = s.drops ∧
      (s.restatus i).clearances = s.clearances ∧
      (s.restatus i).clearanceLock = s.clearanceLock ∧
      (s.restatus i).auditFailure = s.auditFailure ∧
      (s.restatus i).auditCountdown = s.auditCountdown ∧
      (s.restatus i).lastAuditSum = s.lastAuditSum ∧
      (s.restatus i).queue = s.queue ∧
      (s.restatus i).serialCounter = s.serialCounter ∧
      (s.restatus i).params = s.params ∧
      (s.restatus i).masks = s.masks ∧
      (s.restatus i).slot = s.slot ∧
      (s.restatus i).round = s.round ∧
      (s.restatus i).inFlight = s.inFlight ∧
      (s.restatus i).ltx = s.ltx ∧
      (s.restatus i).miso = s.miso ∧
      (s.restatus i).passDue = s.passDue ∧
      (s.restatus i).pending = s.pending ∧
      (∀ j, (s.restatus i).session j = s.session j) ∧
      (∀ j, (s.restatus i).console j = s.console j) ∧
      (∀ j, (s.restatus i).typist j = s.typist j) ∧
      (∀ j, (s.restatus i).drop j = s.drop j) ∧
      (∀ j, (s.restatus i).clearance j = s.clearance j) := by
  unfold State.restatus
  try dsimp only
  simp

@[simp] theorem State.recompute_frame (s : State) (i : TakeIx) :
      (s.recompute i).officeTime = s.officeTime ∧
      (s.recompute i).sessions = s.sessions ∧
      (s.recompute i).consoles = s.consoles ∧
      (s.recompute i).typists = s.typists ∧
      (s.recompute i).drops = s.drops ∧
      (s.recompute i).clearances = s.clearances ∧
      (s.recompute i).clearanceLock = s.clearanceLock ∧
      (s.recompute i).auditFailure = s.auditFailure ∧
      (s.recompute i).auditCountdown = s.auditCountdown ∧
      (s.recompute i).lastAuditSum = s.lastAuditSum ∧
      (s.recompute i).queue = s.queue ∧
      (s.recompute i).serialCounter = s.serialCounter ∧
      (s.recompute i).params = s.params ∧
      (s.recompute i).masks = s.masks ∧
      (s.recompute i).slot = s.slot ∧
      (s.recompute i).round = s.round ∧
      (s.recompute i).inFlight = s.inFlight ∧
      (s.recompute i).ltx = s.ltx ∧
      (s.recompute i).miso = s.miso ∧
      (s.recompute i).passDue = s.passDue ∧
      (s.recompute i).pending = s.pending ∧
      (∀ j, (s.recompute i).session j = s.session j) ∧
      (∀ j, (s.recompute i).console j = s.console j) ∧
      (∀ j, (s.recompute i).typist j = s.typist j) ∧
      (∀ j, (s.recompute i).drop j = s.drop j) ∧
      (∀ j, (s.recompute i).clearance j = s.clearance j) := by
  unfold State.recompute
  try dsimp only
  simp

@[simp] theorem State.moveEntry_frame (s : State) (i : TakeIx) :
      (s.moveEntry i).officeTime = s.officeTime ∧
      (s.moveEntry i).takes = s.takes ∧
      (s.moveEntry i).sessions = s.sessions ∧
      (s.moveEntry i).consoles = s.consoles ∧
      (s.moveEntry i).typists = s.typists ∧
      (s.moveEntry i).drops = s.drops ∧
      (s.moveEntry i).clearances = s.clearances ∧
      (s.moveEntry i).clearanceLock = s.clearanceLock ∧
      (s.moveEntry i).auditFailure = s.auditFailure ∧
      (s.moveEntry i).auditCountdown = s.auditCountdown ∧
      (s.moveEntry i).lastAuditSum = s.lastAuditSum ∧
      (s.moveEntry i).serialCounter = s.serialCounter ∧
      (s.moveEntry i).params = s.params ∧
      (s.moveEntry i).events = s.events ∧
      (s.moveEntry i).masks = s.masks ∧
      (s.moveEntry i).slot = s.slot ∧
      (s.moveEntry i).round = s.round ∧
      (s.moveEntry i).inFlight = s.inFlight ∧
      (s.moveEntry i).ltx = s.ltx ∧
      (s.moveEntry i).miso = s.miso ∧
      (s.moveEntry i).passDue = s.passDue ∧
      (s.moveEntry i).pending = s.pending ∧
      (∀ j, (s.moveEntry i).take j = s.take j) ∧
      (∀ j, (s.moveEntry i).session j = s.session j) ∧
      (∀ j, (s.moveEntry i).console j = s.console j) ∧
      (∀ j, (s.moveEntry i).typist j = s.typist j) ∧
      (∀ j, (s.moveEntry i).drop j = s.drop j) ∧
      (∀ j, (s.moveEntry i).clearance j = s.clearance j) := by
  unfold State.moveEntry
  try dsimp only
  (repeat' split) <;> simp [State.take, State.session, State.console, State.typist, State.drop, State.clearance]

@[simp] theorem State.offerReturns_frame (s : State) (i : TakeIx) (e : Option TypistIx) :
      (s.offerReturns i e).officeTime = s.officeTime ∧
      (s.offerReturns i e).sessions = s.sessions ∧
      (s.offerReturns i e).consoles = s.consoles ∧
      (s.offerReturns i e).typists = s.typists ∧
      (s.offerReturns i e).drops = s.drops ∧
      (s.offerReturns i e).clearances = s.clearances ∧
      (s.offerReturns i e).clearanceLock = s.clearanceLock ∧
      (s.offerReturns i e).auditFailure = s.auditFailure ∧
      (s.offerReturns i e).auditCountdown = s.auditCountdown ∧
      (s.offerReturns i e).lastAuditSum = s.lastAuditSum ∧
      (s.offerReturns i e).serialCounter = s.serialCounter ∧
      (s.offerReturns i e).params = s.params ∧
      (s.offerReturns i e).events = s.events ∧
      (s.offerReturns i e).masks = s.masks ∧
      (s.offerReturns i e).slot = s.slot ∧
      (s.offerReturns i e).round = s.round ∧
      (s.offerReturns i e).inFlight = s.inFlight ∧
      (s.offerReturns i e).ltx = s.ltx ∧
      (s.offerReturns i e).miso = s.miso ∧
      (s.offerReturns i e).pending = s.pending ∧
      (∀ j, (s.offerReturns i e).session j = s.session j) ∧
      (∀ j, (s.offerReturns i e).console j = s.console j) ∧
      (∀ j, (s.offerReturns i e).typist j = s.typist j) ∧
      (∀ j, (s.offerReturns i e).drop j = s.drop j) ∧
      (∀ j, (s.offerReturns i e).clearance j = s.clearance j) := by
  unfold State.offerReturns
  try dsimp only
  (repeat' split) <;> simp

@[simp] theorem State.heldReturns_frame (s : State) (i : TakeIx) :
      (s.heldReturns i).officeTime = s.officeTime ∧
      (s.heldReturns i).sessions = s.sessions ∧
      (s.heldReturns i).consoles = s.consoles ∧
      (s.heldReturns i).typists = s.typists ∧
      (s.heldReturns i).drops = s.drops ∧
      (s.heldReturns i).clearances = s.clearances ∧
      (s.heldReturns i).clearanceLock = s.clearanceLock ∧
      (s.heldReturns i).auditFailure = s.auditFailure ∧
      (s.heldReturns i).auditCountdown = s.auditCountdown ∧
      (s.heldReturns i).lastAuditSum = s.lastAuditSum ∧
      (s.heldReturns i).params = s.params ∧
      (s.heldReturns i).masks = s.masks ∧
      (s.heldReturns i).slot = s.slot ∧
      (s.heldReturns i).round = s.round ∧
      (s.heldReturns i).inFlight = s.inFlight ∧
      (s.heldReturns i).ltx = s.ltx ∧
      (s.heldReturns i).miso = s.miso ∧
      (s.heldReturns i).pending = s.pending ∧
      (∀ j, (s.heldReturns i).session j = s.session j) ∧
      (∀ j, (s.heldReturns i).console j = s.console j) ∧
      (∀ j, (s.heldReturns i).typist j = s.typist j) ∧
      (∀ j, (s.heldReturns i).drop j = s.drop j) ∧
      (∀ j, (s.heldReturns i).clearance j = s.clearance j) := by
  unfold State.heldReturns
  try dsimp only
  simp

@[simp] theorem State.closeRecord_frame (s : State) (i : TakeIx) (n : Nat) (b : Bool) :
      (s.closeRecord i n b).officeTime = s.officeTime ∧
      (s.closeRecord i n b).sessions = s.sessions ∧
      (s.closeRecord i n b).consoles = s.consoles ∧
      (s.closeRecord i n b).typists = s.typists ∧
      (s.closeRecord i n b).drops = s.drops ∧
      (s.closeRecord i n b).clearances = s.clearances ∧
      (s.closeRecord i n b).clearanceLock = s.clearanceLock ∧
      (s.closeRecord i n b).auditFailure = s.auditFailure ∧
      (s.closeRecord i n b).auditCountdown = s.auditCountdown ∧
      (s.closeRecord i n b).lastAuditSum = s.lastAuditSum ∧
      (s.closeRecord i n b).params = s.params ∧
      (s.closeRecord i n b).masks = s.masks ∧
      (s.closeRecord i n b).slot = s.slot ∧
      (s.closeRecord i n b).round = s.round ∧
      (s.closeRecord i n b).inFlight = s.inFlight ∧
      (s.closeRecord i n b).ltx = s.ltx ∧
      (s.closeRecord i n b).miso = s.miso ∧
      (s.closeRecord i n b).pending = s.pending ∧
      (∀ j, (s.closeRecord i n b).session j = s.session j) ∧
      (∀ j, (s.closeRecord i n b).console j = s.console j) ∧
      (∀ j, (s.closeRecord i n b).typist j = s.typist j) ∧
      (∀ j, (s.closeRecord i n b).drop j = s.drop j) ∧
      (∀ j, (s.closeRecord i n b).clearance j = s.clearance j) := by
  unfold State.closeRecord
  try dsimp only
  (repeat' split) <;> simp

@[simp] theorem State.cueLost_frame (s : State) (d : DropIx) :
      (s.cueLost d).officeTime = s.officeTime ∧
      (s.cueLost d).takes = s.takes ∧
      (s.cueLost d).sessions = s.sessions ∧
      (s.cueLost d).consoles = s.consoles ∧
      (s.cueLost d).drops = s.drops ∧
      (s.cueLost d).clearances = s.clearances ∧
      (s.cueLost d).clearanceLock = s.clearanceLock ∧
      (s.cueLost d).auditFailure = s.auditFailure ∧
      (s.cueLost d).auditCountdown = s.auditCountdown ∧
      (s.cueLost d).lastAuditSum = s.lastAuditSum ∧
      (s.cueLost d).queue = s.queue ∧
      (s.cueLost d).serialCounter = s.serialCounter ∧
      (s.cueLost d).params = s.params ∧
      (s.cueLost d).events = s.events ∧
      (s.cueLost d).masks = s.masks ∧
      (s.cueLost d).slot = s.slot ∧
      (s.cueLost d).round = s.round ∧
      (s.cueLost d).inFlight = s.inFlight ∧
      (s.cueLost d).ltx = s.ltx ∧
      (s.cueLost d).miso = s.miso ∧
      (s.cueLost d).passDue = s.passDue ∧
      (s.cueLost d).pending = s.pending ∧
      (∀ j, (s.cueLost d).take j = s.take j) ∧
      (∀ j, (s.cueLost d).session j = s.session j) ∧
      (∀ j, (s.cueLost d).console j = s.console j) ∧
      (∀ j, (s.cueLost d).drop j = s.drop j) ∧
      (∀ j, (s.cueLost d).clearance j = s.clearance j) := by
  unfold State.cueLost
  try dsimp only
  (repeat' split) <;> simp

@[simp] theorem State.queueControl_frame (s : State) (d : DropIx) (m : Message) :
      (s.queueControl d m).officeTime = s.officeTime ∧
      (s.queueControl d m).takes = s.takes ∧
      (s.queueControl d m).sessions = s.sessions ∧
      (s.queueControl d m).consoles = s.consoles ∧
      (s.queueControl d m).clearances = s.clearances ∧
      (s.queueControl d m).clearanceLock = s.clearanceLock ∧
      (s.queueControl d m).auditFailure = s.auditFailure ∧
      (s.queueControl d m).auditCountdown = s.auditCountdown ∧
      (s.queueControl d m).lastAuditSum = s.lastAuditSum ∧
      (s.queueControl d m).queue = s.queue ∧
      (s.queueControl d m).serialCounter = s.serialCounter ∧
      (s.queueControl d m).params = s.params ∧
      (s.queueControl d m).events = s.events ∧
      (s.queueControl d m).masks = s.masks ∧
      (s.queueControl d m).slot = s.slot ∧
      (s.queueControl d m).round = s.round ∧
      (s.queueControl d m).inFlight = s.inFlight ∧
      (s.queueControl d m).ltx = s.ltx ∧
      (s.queueControl d m).miso = s.miso ∧
      (s.queueControl d m).passDue = s.passDue ∧
      (s.queueControl d m).pending = s.pending ∧
      (∀ j, (s.queueControl d m).take j = s.take j) ∧
      (∀ j, (s.queueControl d m).session j = s.session j) ∧
      (∀ j, (s.queueControl d m).console j = s.console j) ∧
      (∀ j, (s.queueControl d m).clearance j = s.clearance j) := by
  unfold State.queueControl
  try dsimp only
  (repeat' split) <;> simp

@[simp] theorem State.queueCue_frame (s : State) (d : DropIx) (c : CueFields) :
      (s.queueCue d c).officeTime = s.officeTime ∧
      (s.queueCue d c).takes = s.takes ∧
      (s.queueCue d c).sessions = s.sessions ∧
      (s.queueCue d c).consoles = s.consoles ∧
      (s.queueCue d c).clearances = s.clearances ∧
      (s.queueCue d c).clearanceLock = s.clearanceLock ∧
      (s.queueCue d c).auditFailure = s.auditFailure ∧
      (s.queueCue d c).auditCountdown = s.auditCountdown ∧
      (s.queueCue d c).lastAuditSum = s.lastAuditSum ∧
      (s.queueCue d c).queue = s.queue ∧
      (s.queueCue d c).serialCounter = s.serialCounter ∧
      (s.queueCue d c).params = s.params ∧
      (s.queueCue d c).events = s.events ∧
      (s.queueCue d c).masks = s.masks ∧
      (s.queueCue d c).slot = s.slot ∧
      (s.queueCue d c).round = s.round ∧
      (s.queueCue d c).inFlight = s.inFlight ∧
      (s.queueCue d c).ltx = s.ltx ∧
      (s.queueCue d c).miso = s.miso ∧
      (s.queueCue d c).passDue = s.passDue ∧
      (s.queueCue d c).pending = s.pending ∧
      (∀ j, (s.queueCue d c).take j = s.take j) ∧
      (∀ j, (s.queueCue d c).session j = s.session j) ∧
      (∀ j, (s.queueCue d c).console j = s.console j) ∧
      (∀ j, (s.queueCue d c).clearance j = s.clearance j) := by
  unfold State.queueCue
  try dsimp only
  (repeat' split) <;> simp

@[simp] theorem State.queueWithdraw_frame (s : State) (t : TypistIx) (h : Handle) (b : Bool) :
      (s.queueWithdraw t h b).officeTime = s.officeTime ∧
      (s.queueWithdraw t h b).takes = s.takes ∧
      (s.queueWithdraw t h b).sessions = s.sessions ∧
      (s.queueWithdraw t h b).consoles = s.consoles ∧
      (s.queueWithdraw t h b).clearances = s.clearances ∧
      (s.queueWithdraw t h b).clearanceLock = s.clearanceLock ∧
      (s.queueWithdraw t h b).auditFailure = s.auditFailure ∧
      (s.queueWithdraw t h b).auditCountdown = s.auditCountdown ∧
      (s.queueWithdraw t h b).lastAuditSum = s.lastAuditSum ∧
      (s.queueWithdraw t h b).queue = s.queue ∧
      (s.queueWithdraw t h b).serialCounter = s.serialCounter ∧
      (s.queueWithdraw t h b).params = s.params ∧
      (s.queueWithdraw t h b).events = s.events ∧
      (s.queueWithdraw t h b).masks = s.masks ∧
      (s.queueWithdraw t h b).slot = s.slot ∧
      (s.queueWithdraw t h b).round = s.round ∧
      (s.queueWithdraw t h b).inFlight = s.inFlight ∧
      (s.queueWithdraw t h b).ltx = s.ltx ∧
      (s.queueWithdraw t h b).miso = s.miso ∧
      (s.queueWithdraw t h b).passDue = s.passDue ∧
      (s.queueWithdraw t h b).pending = s.pending ∧
      (∀ j, (s.queueWithdraw t h b).take j = s.take j) ∧
      (∀ j, (s.queueWithdraw t h b).session j = s.session j) ∧
      (∀ j, (s.queueWithdraw t h b).console j = s.console j) ∧
      (∀ j, (s.queueWithdraw t h b).clearance j = s.clearance j) := by
  unfold State.queueWithdraw
  try dsimp only
  (repeat' split) <;> simp

@[simp] theorem State.queueResume_frame (s : State) (t : TypistIx) :
      (s.queueResume t).officeTime = s.officeTime ∧
      (s.queueResume t).takes = s.takes ∧
      (s.queueResume t).sessions = s.sessions ∧
      (s.queueResume t).consoles = s.consoles ∧
      (s.queueResume t).clearances = s.clearances ∧
      (s.queueResume t).clearanceLock = s.clearanceLock ∧
      (s.queueResume t).auditFailure = s.auditFailure ∧
      (s.queueResume t).auditCountdown = s.auditCountdown ∧
      (s.queueResume t).lastAuditSum = s.lastAuditSum ∧
      (s.queueResume t).queue = s.queue ∧
      (s.queueResume t).serialCounter = s.serialCounter ∧
      (s.queueResume t).params = s.params ∧
      (s.queueResume t).events = s.events ∧
      (s.queueResume t).masks = s.masks ∧
      (s.queueResume t).slot = s.slot ∧
      (s.queueResume t).round = s.round ∧
      (s.queueResume t).inFlight = s.inFlight ∧
      (s.queueResume t).ltx = s.ltx ∧
      (s.queueResume t).miso = s.miso ∧
      (s.queueResume t).passDue = s.passDue ∧
      (s.queueResume t).pending = s.pending ∧
      (∀ j, (s.queueResume t).take j = s.take j) ∧
      (∀ j, (s.queueResume t).session j = s.session j) ∧
      (∀ j, (s.queueResume t).console j = s.console j) ∧
      (∀ j, (s.queueResume t).clearance j = s.clearance j) := by
  unfold State.queueResume
  try dsimp only
  (repeat' split) <;> simp

@[simp] theorem State.becomeIdle_frame (s : State) (t : TypistIx) :
      (s.becomeIdle t).officeTime = s.officeTime ∧
      (s.becomeIdle t).takes = s.takes ∧
      (s.becomeIdle t).sessions = s.sessions ∧
      (s.becomeIdle t).consoles = s.consoles ∧
      (s.becomeIdle t).drops = s.drops ∧
      (s.becomeIdle t).clearances = s.clearances ∧
      (s.becomeIdle t).clearanceLock = s.clearanceLock ∧
      (s.becomeIdle t).auditFailure = s.auditFailure ∧
      (s.becomeIdle t).auditCountdown = s.auditCountdown ∧
      (s.becomeIdle t).lastAuditSum = s.lastAuditSum ∧
      (s.becomeIdle t).queue = s.queue ∧
      (s.becomeIdle t).serialCounter = s.serialCounter ∧
      (s.becomeIdle t).params = s.params ∧
      (s.becomeIdle t).events = s.events ∧
      (s.becomeIdle t).masks = s.masks ∧
      (s.becomeIdle t).slot = s.slot ∧
      (s.becomeIdle t).round = s.round ∧
      (s.becomeIdle t).inFlight = s.inFlight ∧
      (s.becomeIdle t).ltx = s.ltx ∧
      (s.becomeIdle t).miso = s.miso ∧
      (s.becomeIdle t).pending = s.pending ∧
      (∀ j, (s.becomeIdle t).take j = s.take j) ∧
      (∀ j, (s.becomeIdle t).session j = s.session j) ∧
      (∀ j, (s.becomeIdle t).console j = s.console j) ∧
      (∀ j, (s.becomeIdle t).drop j = s.drop j) ∧
      (∀ j, (s.becomeIdle t).clearance j = s.clearance j) := by
  unfold State.becomeIdle
  try dsimp only
  simp

@[simp] theorem State.offerEnds_frame (s : State) (t : TypistIx) :
      (s.offerEnds t).officeTime = s.officeTime ∧
      (s.offerEnds t).takes = s.takes ∧
      (s.offerEnds t).sessions = s.sessions ∧
      (s.offerEnds t).consoles = s.consoles ∧
      (s.offerEnds t).drops = s.drops ∧
      (s.offerEnds t).clearances = s.clearances ∧
      (s.offerEnds t).clearanceLock = s.clearanceLock ∧
      (s.offerEnds t).auditFailure = s.auditFailure ∧
      (s.offerEnds t).auditCountdown = s.auditCountdown ∧
      (s.offerEnds t).lastAuditSum = s.lastAuditSum ∧
      (s.offerEnds t).queue = s.queue ∧
      (s.offerEnds t).serialCounter = s.serialCounter ∧
      (s.offerEnds t).params = s.params ∧
      (s.offerEnds t).events = s.events ∧
      (s.offerEnds t).masks = s.masks ∧
      (s.offerEnds t).slot = s.slot ∧
      (s.offerEnds t).round = s.round ∧
      (s.offerEnds t).inFlight = s.inFlight ∧
      (s.offerEnds t).ltx = s.ltx ∧
      (s.offerEnds t).miso = s.miso ∧
      (s.offerEnds t).pending = s.pending ∧
      (∀ j, (s.offerEnds t).take j = s.take j) ∧
      (∀ j, (s.offerEnds t).session j = s.session j) ∧
      (∀ j, (s.offerEnds t).console j = s.console j) ∧
      (∀ j, (s.offerEnds t).drop j = s.drop j) ∧
      (∀ j, (s.offerEnds t).clearance j = s.clearance j) := by
  unfold State.offerEnds
  try dsimp only
  (repeat' split) <;> simp

@[simp] theorem State.resumeParked_frame (s : State) (t : TypistIx) (p : TakeIx) :
      (s.resumeParked t p).officeTime = s.officeTime ∧
      (s.resumeParked t p).sessions = s.sessions ∧
      (s.resumeParked t p).consoles = s.consoles ∧
      (s.resumeParked t p).drops = s.drops ∧
      (s.resumeParked t p).clearances = s.clearances ∧
      (s.resumeParked t p).clearanceLock = s.clearanceLock ∧
      (s.resumeParked t p).auditFailure = s.auditFailure ∧
      (s.resumeParked t p).auditCountdown = s.auditCountdown ∧
      (s.resumeParked t p).lastAuditSum = s.lastAuditSum ∧
      (s.resumeParked t p).queue = s.queue ∧
      (s.resumeParked t p).serialCounter = s.serialCounter ∧
      (s.resumeParked t p).params = s.params ∧
      (s.resumeParked t p).masks = s.masks ∧
      (s.resumeParked t p).slot = s.slot ∧
      (s.resumeParked t p).round = s.round ∧
      (s.resumeParked t p).inFlight = s.inFlight ∧
      (s.resumeParked t p).ltx = s.ltx ∧
      (s.resumeParked t p).miso = s.miso ∧
      (s.resumeParked t p).passDue = s.passDue ∧
      (s.resumeParked t p).pending = s.pending ∧
      (∀ j, (s.resumeParked t p).session j = s.session j) ∧
      (∀ j, (s.resumeParked t p).console j = s.console j) ∧
      (∀ j, (s.resumeParked t p).drop j = s.drop j) ∧
      (∀ j, (s.resumeParked t p).clearance j = s.clearance j) := by
  unfold State.resumeParked
  try dsimp only
  simp

@[simp] theorem State.currentLeaves_frame (s : State) (t : TypistIx) (i : TakeIx) :
      (s.currentLeaves t i).2.officeTime = s.officeTime ∧
      (s.currentLeaves t i).2.sessions = s.sessions ∧
      (s.currentLeaves t i).2.consoles = s.consoles ∧
      (s.currentLeaves t i).2.clearances = s.clearances ∧
      (s.currentLeaves t i).2.clearanceLock = s.clearanceLock ∧
      (s.currentLeaves t i).2.auditFailure = s.auditFailure ∧
      (s.currentLeaves t i).2.auditCountdown = s.auditCountdown ∧
      (s.currentLeaves t i).2.lastAuditSum = s.lastAuditSum ∧
      (s.currentLeaves t i).2.queue = s.queue ∧
      (s.currentLeaves t i).2.serialCounter = s.serialCounter ∧
      (s.currentLeaves t i).2.params = s.params ∧
      (s.currentLeaves t i).2.masks = s.masks ∧
      (s.currentLeaves t i).2.slot = s.slot ∧
      (s.currentLeaves t i).2.round = s.round ∧
      (s.currentLeaves t i).2.inFlight = s.inFlight ∧
      (s.currentLeaves t i).2.ltx = s.ltx ∧
      (s.currentLeaves t i).2.miso = s.miso ∧
      (s.currentLeaves t i).2.pending = s.pending ∧
      (∀ j, (s.currentLeaves t i).2.session j = s.session j) ∧
      (∀ j, (s.currentLeaves t i).2.console j = s.console j) ∧
      (∀ j, (s.currentLeaves t i).2.clearance j = s.clearance j) := by
  unfold State.currentLeaves
  try dsimp only
  (repeat' split) <;> simp

@[simp] theorem State.retractOffer_frame (s : State) (t : TypistIx) (h : Handle) :
      (s.retractOffer t h).officeTime = s.officeTime ∧
      (s.retractOffer t h).takes = s.takes ∧
      (s.retractOffer t h).sessions = s.sessions ∧
      (s.retractOffer t h).consoles = s.consoles ∧
      (s.retractOffer t h).clearances = s.clearances ∧
      (s.retractOffer t h).clearanceLock = s.clearanceLock ∧
      (s.retractOffer t h).auditFailure = s.auditFailure ∧
      (s.retractOffer t h).auditCountdown = s.auditCountdown ∧
      (s.retractOffer t h).lastAuditSum = s.lastAuditSum ∧
      (s.retractOffer t h).queue = s.queue ∧
      (s.retractOffer t h).serialCounter = s.serialCounter ∧
      (s.retractOffer t h).params = s.params ∧
      (s.retractOffer t h).events = s.events ∧
      (s.retractOffer t h).masks = s.masks ∧
      (s.retractOffer t h).slot = s.slot ∧
      (s.retractOffer t h).round = s.round ∧
      (s.retractOffer t h).inFlight = s.inFlight ∧
      (s.retractOffer t h).ltx = s.ltx ∧
      (s.retractOffer t h).miso = s.miso ∧
      (s.retractOffer t h).passDue = s.passDue ∧
      (s.retractOffer t h).pending = s.pending ∧
      (∀ j, (s.retractOffer t h).take j = s.take j) ∧
      (∀ j, (s.retractOffer t h).session j = s.session j) ∧
      (∀ j, (s.retractOffer t h).console j = s.console j) ∧
      (∀ j, (s.retractOffer t h).clearance j = s.clearance j) := by
  unfold State.retractOffer
  try dsimp only
  (repeat' split) <;> simp

@[simp] theorem State.withdrawPending_frame (s : State) (t : TypistIx) (b : Bool) :
      (s.withdrawPending t b).officeTime = s.officeTime ∧
      (s.withdrawPending t b).sessions = s.sessions ∧
      (s.withdrawPending t b).consoles = s.consoles ∧
      (s.withdrawPending t b).clearances = s.clearances ∧
      (s.withdrawPending t b).clearanceLock = s.clearanceLock ∧
      (s.withdrawPending t b).auditFailure = s.auditFailure ∧
      (s.withdrawPending t b).auditCountdown = s.auditCountdown ∧
      (s.withdrawPending t b).lastAuditSum = s.lastAuditSum ∧
      (s.withdrawPending t b).serialCounter = s.serialCounter ∧
      (s.withdrawPending t b).params = s.params ∧
      (s.withdrawPending t b).events = s.events ∧
      (s.withdrawPending t b).masks = s.masks ∧
      (s.withdrawPending t b).slot = s.slot ∧
      (s.withdrawPending t b).round = s.round ∧
      (s.withdrawPending t b).inFlight = s.inFlight ∧
      (s.withdrawPending t b).ltx = s.ltx ∧
      (s.withdrawPending t b).miso = s.miso ∧
      (s.withdrawPending t b).pending = s.pending ∧
      (∀ j, (s.withdrawPending t b).session j = s.session j) ∧
      (∀ j, (s.withdrawPending t b).console j = s.console j) ∧
      (∀ j, (s.withdrawPending t b).clearance j = s.clearance j) := by
  unfold State.withdrawPending
  try dsimp only
  (repeat' split) <;> simp

@[simp] theorem State.withdrawParked_frame (s : State) (t : TypistIx) :
      (s.withdrawParked t).officeTime = s.officeTime ∧
      (s.withdrawParked t).sessions = s.sessions ∧
      (s.withdrawParked t).consoles = s.consoles ∧
      (s.withdrawParked t).drops = s.drops ∧
      (s.withdrawParked t).clearances = s.clearances ∧
      (s.withdrawParked t).clearanceLock = s.clearanceLock ∧
      (s.withdrawParked t).auditFailure = s.auditFailure ∧
      (s.withdrawParked t).auditCountdown = s.auditCountdown ∧
      (s.withdrawParked t).lastAuditSum = s.lastAuditSum ∧
      (s.withdrawParked t).params = s.params ∧
      (s.withdrawParked t).masks = s.masks ∧
      (s.withdrawParked t).slot = s.slot ∧
      (s.withdrawParked t).round = s.round ∧
      (s.withdrawParked t).inFlight = s.inFlight ∧
      (s.withdrawParked t).ltx = s.ltx ∧
      (s.withdrawParked t).miso = s.miso ∧
      (s.withdrawParked t).pending = s.pending ∧
      (∀ j, (s.withdrawParked t).session j = s.session j) ∧
      (∀ j, (s.withdrawParked t).console j = s.console j) ∧
      (∀ j, (s.withdrawParked t).drop j = s.drop j) ∧
      (∀ j, (s.withdrawParked t).clearance j = s.clearance j) := by
  unfold State.withdrawParked
  try dsimp only
  (repeat' split) <;> simp

@[simp] theorem State.withdrawCurrent_frame (s : State) (t : TypistIx) :
      (s.withdrawCurrent t).officeTime = s.officeTime ∧
      (s.withdrawCurrent t).sessions = s.sessions ∧
      (s.withdrawCurrent t).consoles = s.consoles ∧
      (s.withdrawCurrent t).clearances = s.clearances ∧
      (s.withdrawCurrent t).clearanceLock = s.clearanceLock ∧
      (s.withdrawCurrent t).auditFailure = s.auditFailure ∧
      (s.withdrawCurrent t).auditCountdown = s.auditCountdown ∧
      (s.withdrawCurrent t).lastAuditSum = s.lastAuditSum ∧
      (s.withdrawCurrent t).params = s.params ∧
      (s.withdrawCurrent t).masks = s.masks ∧
      (s.withdrawCurrent t).slot = s.slot ∧
      (s.withdrawCurrent t).round = s.round ∧
      (s.withdrawCurrent t).inFlight = s.inFlight ∧
      (s.withdrawCurrent t).ltx = s.ltx ∧
      (s.withdrawCurrent t).miso = s.miso ∧
      (s.withdrawCurrent t).pending = s.pending ∧
      (∀ j, (s.withdrawCurrent t).session j = s.session j) ∧
      (∀ j, (s.withdrawCurrent t).console j = s.console j) ∧
      (∀ j, (s.withdrawCurrent t).clearance j = s.clearance j) := by
  unfold State.withdrawCurrent
  try dsimp only
  (repeat' split) <;> simp

@[simp] theorem State.withdrawHeld_frame (s : State) (i : TakeIx) :
      (s.withdrawHeld i).officeTime = s.officeTime ∧
      (s.withdrawHeld i).sessions = s.sessions ∧
      (s.withdrawHeld i).consoles = s.consoles ∧
      (s.withdrawHeld i).clearances = s.clearances ∧
      (s.withdrawHeld i).clearanceLock = s.clearanceLock ∧
      (s.withdrawHeld i).auditFailure = s.auditFailure ∧
      (s.withdrawHeld i).auditCountdown = s.auditCountdown ∧
      (s.withdrawHeld i).lastAuditSum = s.lastAuditSum ∧
      (s.withdrawHeld i).params = s.params ∧
      (s.withdrawHeld i).masks = s.masks ∧
      (s.withdrawHeld i).slot = s.slot ∧
      (s.withdrawHeld i).round = s.round ∧
      (s.withdrawHeld i).inFlight = s.inFlight ∧
      (s.withdrawHeld i).ltx = s.ltx ∧
      (s.withdrawHeld i).miso = s.miso ∧
      (s.withdrawHeld i).pending = s.pending ∧
      (∀ j, (s.withdrawHeld i).session j = s.session j) ∧
      (∀ j, (s.withdrawHeld i).console j = s.console j) ∧
      (∀ j, (s.withdrawHeld i).clearance j = s.clearance j) := by
  unfold State.withdrawHeld
  try dsimp only
  (repeat' split) <;> simp

@[simp] theorem State.signOffRecord_frame (s : State) (t : TypistIx) :
      (s.signOffRecord t).officeTime = s.officeTime ∧
      (s.signOffRecord t).sessions = s.sessions ∧
      (s.signOffRecord t).consoles = s.consoles ∧
      (s.signOffRecord t).drops = s.drops ∧
      (s.signOffRecord t).clearances = s.clearances ∧
      (s.signOffRecord t).clearanceLock = s.clearanceLock ∧
      (s.signOffRecord t).auditFailure = s.auditFailure ∧
      (s.signOffRecord t).auditCountdown = s.auditCountdown ∧
      (s.signOffRecord t).lastAuditSum = s.lastAuditSum ∧
      (s.signOffRecord t).params = s.params ∧
      (s.signOffRecord t).masks = s.masks ∧
      (s.signOffRecord t).slot = s.slot ∧
      (s.signOffRecord t).round = s.round ∧
      (s.signOffRecord t).inFlight = s.inFlight ∧
      (s.signOffRecord t).ltx = s.ltx ∧
      (s.signOffRecord t).miso = s.miso ∧
      (s.signOffRecord t).pending = s.pending ∧
      (∀ j, (s.signOffRecord t).session j = s.session j) ∧
      (∀ j, (s.signOffRecord t).console j = s.console j) ∧
      (∀ j, (s.signOffRecord t).drop j = s.drop j) ∧
      (∀ j, (s.signOffRecord t).clearance j = s.clearance j) := by
  unfold State.signOffRecord
  try dsimp only
  (repeat' split) <;> simp

@[simp] theorem State.typistGraceEnds_frame (s : State) (t : TypistIx) :
      (s.typistGraceEnds t).officeTime = s.officeTime ∧
      (s.typistGraceEnds t).sessions = s.sessions ∧
      (s.typistGraceEnds t).consoles = s.consoles ∧
      (s.typistGraceEnds t).drops = s.drops ∧
      (s.typistGraceEnds t).clearances = s.clearances ∧
      (s.typistGraceEnds t).clearanceLock = s.clearanceLock ∧
      (s.typistGraceEnds t).auditFailure = s.auditFailure ∧
      (s.typistGraceEnds t).auditCountdown = s.auditCountdown ∧
      (s.typistGraceEnds t).lastAuditSum = s.lastAuditSum ∧
      (s.typistGraceEnds t).params = s.params ∧
      (s.typistGraceEnds t).masks = s.masks ∧
      (s.typistGraceEnds t).slot = s.slot ∧
      (s.typistGraceEnds t).round = s.round ∧
      (s.typistGraceEnds t).inFlight = s.inFlight ∧
      (s.typistGraceEnds t).ltx = s.ltx ∧
      (s.typistGraceEnds t).miso = s.miso ∧
      (s.typistGraceEnds t).pending = s.pending ∧
      (∀ j, (s.typistGraceEnds t).session j = s.session j) ∧
      (∀ j, (s.typistGraceEnds t).console j = s.console j) ∧
      (∀ j, (s.typistGraceEnds t).drop j = s.drop j) ∧
      (∀ j, (s.typistGraceEnds t).clearance j = s.clearance j) := by
  unfold State.typistGraceEnds
  try dsimp only
  simp

@[simp] theorem State.setClearance_frame (s : State) (d : DropIx) (l : Level) :
      (s.setClearance d l).officeTime = s.officeTime ∧
      (s.setClearance d l).takes = s.takes ∧
      (s.setClearance d l).sessions = s.sessions ∧
      (s.setClearance d l).consoles = s.consoles ∧
      (s.setClearance d l).drops = s.drops ∧
      (s.setClearance d l).clearanceLock = s.clearanceLock ∧
      (s.setClearance d l).auditFailure = s.auditFailure ∧
      (s.setClearance d l).auditCountdown = s.auditCountdown ∧
      (s.setClearance d l).lastAuditSum = s.lastAuditSum ∧
      (s.setClearance d l).queue = s.queue ∧
      (s.setClearance d l).serialCounter = s.serialCounter ∧
      (s.setClearance d l).params = s.params ∧
      (s.setClearance d l).events = s.events ∧
      (s.setClearance d l).masks = s.masks ∧
      (s.setClearance d l).slot = s.slot ∧
      (s.setClearance d l).round = s.round ∧
      (s.setClearance d l).inFlight = s.inFlight ∧
      (s.setClearance d l).ltx = s.ltx ∧
      (s.setClearance d l).miso = s.miso ∧
      (s.setClearance d l).passDue = s.passDue ∧
      (s.setClearance d l).pending = s.pending ∧
      (∀ j, (s.setClearance d l).take j = s.take j) ∧
      (∀ j, (s.setClearance d l).session j = s.session j) ∧
      (∀ j, (s.setClearance d l).console j = s.console j) ∧
      (∀ j, (s.setClearance d l).drop j = s.drop j) := by
  unfold State.setClearance
  try dsimp only
  (repeat' split) <;> simp [State.take, State.session, State.console, State.drop]

@[simp] theorem State.closeSession_frame (s : State) (x : SessionIx) (f : Take → Nat) (a b : Bool) :
      (s.closeSession x f a b).officeTime = s.officeTime ∧
      (s.closeSession x f a b).typists = s.typists ∧
      (s.closeSession x f a b).drops = s.drops ∧
      (s.closeSession x f a b).clearances = s.clearances ∧
      (s.closeSession x f a b).clearanceLock = s.clearanceLock ∧
      (s.closeSession x f a b).auditFailure = s.auditFailure ∧
      (s.closeSession x f a b).auditCountdown = s.auditCountdown ∧
      (s.closeSession x f a b).lastAuditSum = s.lastAuditSum ∧
      (s.closeSession x f a b).params = s.params ∧
      (s.closeSession x f a b).masks = s.masks ∧
      (s.closeSession x f a b).slot = s.slot ∧
      (s.closeSession x f a b).round = s.round ∧
      (s.closeSession x f a b).inFlight = s.inFlight ∧
      (s.closeSession x f a b).ltx = s.ltx ∧
      (s.closeSession x f a b).miso = s.miso ∧
      (s.closeSession x f a b).pending = s.pending ∧
      (∀ j, (s.closeSession x f a b).typist j = s.typist j) ∧
      (∀ j, (s.closeSession x f a b).drop j = s.drop j) ∧
      (∀ j, (s.closeSession x f a b).clearance j = s.clearance j) := by
  unfold State.closeSession
  try dsimp only
  (repeat' split) <;> simp

@[simp] theorem State.cutShortClose_frame (s : State) (c : ConsoleIx) :
      (s.cutShortClose c).officeTime = s.officeTime ∧
      (s.cutShortClose c).typists = s.typists ∧
      (s.cutShortClose c).drops = s.drops ∧
      (s.cutShortClose c).clearances = s.clearances ∧
      (s.cutShortClose c).clearanceLock = s.clearanceLock ∧
      (s.cutShortClose c).auditFailure = s.auditFailure ∧
      (s.cutShortClose c).auditCountdown = s.auditCountdown ∧
      (s.cutShortClose c).lastAuditSum = s.lastAuditSum ∧
      (s.cutShortClose c).params = s.params ∧
      (s.cutShortClose c).masks = s.masks ∧
      (s.cutShortClose c).slot = s.slot ∧
      (s.cutShortClose c).round = s.round ∧
      (s.cutShortClose c).inFlight = s.inFlight ∧
      (s.cutShortClose c).ltx = s.ltx ∧
      (s.cutShortClose c).miso = s.miso ∧
      (s.cutShortClose c).pending = s.pending ∧
      (∀ j, (s.cutShortClose c).typist j = s.typist j) ∧
      (∀ j, (s.cutShortClose c).drop j = s.drop j) ∧
      (∀ j, (s.cutShortClose c).clearance j = s.clearance j) := by
  unfold State.cutShortClose
  try dsimp only
  (repeat' split) <;> simp

@[simp] theorem State.freeIfEmpty_frame (s : State) (x : SessionIx) :
      (s.freeIfEmpty x).officeTime = s.officeTime ∧
      (s.freeIfEmpty x).takes = s.takes ∧
      (s.freeIfEmpty x).consoles = s.consoles ∧
      (s.freeIfEmpty x).typists = s.typists ∧
      (s.freeIfEmpty x).drops = s.drops ∧
      (s.freeIfEmpty x).clearances = s.clearances ∧
      (s.freeIfEmpty x).clearanceLock = s.clearanceLock ∧
      (s.freeIfEmpty x).auditFailure = s.auditFailure ∧
      (s.freeIfEmpty x).auditCountdown = s.auditCountdown ∧
      (s.freeIfEmpty x).lastAuditSum = s.lastAuditSum ∧
      (s.freeIfEmpty x).queue = s.queue ∧
      (s.freeIfEmpty x).serialCounter = s.serialCounter ∧
      (s.freeIfEmpty x).params = s.params ∧
      (s.freeIfEmpty x).events = s.events ∧
      (s.freeIfEmpty x).masks = s.masks ∧
      (s.freeIfEmpty x).slot = s.slot ∧
      (s.freeIfEmpty x).round = s.round ∧
      (s.freeIfEmpty x).inFlight = s.inFlight ∧
      (s.freeIfEmpty x).ltx = s.ltx ∧
      (s.freeIfEmpty x).miso = s.miso ∧
      (s.freeIfEmpty x).passDue = s.passDue ∧
      (s.freeIfEmpty x).pending = s.pending ∧
      (∀ j, (s.freeIfEmpty x).take j = s.take j) ∧
      (∀ j, (s.freeIfEmpty x).console j = s.console j) ∧
      (∀ j, (s.freeIfEmpty x).typist j = s.typist j) ∧
      (∀ j, (s.freeIfEmpty x).drop j = s.drop j) ∧
      (∀ j, (s.freeIfEmpty x).clearance j = s.clearance j) := by
  unfold State.freeIfEmpty
  try dsimp only
  (repeat' split) <;> simp

@[simp] theorem State.driftFails_frame (s : State) (c : ConsoleIx) :
      (s.driftFails c).officeTime = s.officeTime ∧
      (s.driftFails c).sessions = s.sessions ∧
      (s.driftFails c).typists = s.typists ∧
      (s.driftFails c).drops = s.drops ∧
      (s.driftFails c).clearances = s.clearances ∧
      (s.driftFails c).clearanceLock = s.clearanceLock ∧
      (s.driftFails c).auditFailure = s.auditFailure ∧
      (s.driftFails c).auditCountdown = s.auditCountdown ∧
      (s.driftFails c).lastAuditSum = s.lastAuditSum ∧
      (s.driftFails c).queue = s.queue ∧
      (s.driftFails c).serialCounter = s.serialCounter ∧
      (s.driftFails c).params = s.params ∧
      (s.driftFails c).masks = s.masks ∧
      (s.driftFails c).slot = s.slot ∧
      (s.driftFails c).round = s.round ∧
      (s.driftFails c).inFlight = s.inFlight ∧
      (s.driftFails c).ltx = s.ltx ∧
      (s.driftFails c).miso = s.miso ∧
      (s.driftFails c).passDue = s.passDue ∧
      (s.driftFails c).pending = s.pending ∧
      (∀ j, (s.driftFails c).session j = s.session j) ∧
      (∀ j, (s.driftFails c).typist j = s.typist j) ∧
      (∀ j, (s.driftFails c).drop j = s.drop j) ∧
      (∀ j, (s.driftFails c).clearance j = s.clearance j) := by
  unfold State.driftFails
  try dsimp only
  (repeat' split) <;> simp

@[simp] theorem State.toContext_frame (s : State) (i : TakeIx) (f : Nat → Nat → Nat × Nat) :
      (s.toContext i f).officeTime = s.officeTime ∧
      (s.toContext i f).sessions = s.sessions ∧
      (s.toContext i f).consoles = s.consoles ∧
      (s.toContext i f).drops = s.drops ∧
      (s.toContext i f).clearances = s.clearances ∧
      (s.toContext i f).clearanceLock = s.clearanceLock ∧
      (s.toContext i f).auditFailure = s.auditFailure ∧
      (s.toContext i f).auditCountdown = s.auditCountdown ∧
      (s.toContext i f).lastAuditSum = s.lastAuditSum ∧
      (s.toContext i f).queue = s.queue ∧
      (s.toContext i f).serialCounter = s.serialCounter ∧
      (s.toContext i f).params = s.params ∧
      (s.toContext i f).events = s.events ∧
      (s.toContext i f).masks = s.masks ∧
      (s.toContext i f).slot = s.slot ∧
      (s.toContext i f).round = s.round ∧
      (s.toContext i f).inFlight = s.inFlight ∧
      (s.toContext i f).ltx = s.ltx ∧
      (s.toContext i f).miso = s.miso ∧
      (s.toContext i f).passDue = s.passDue ∧
      (s.toContext i f).pending = s.pending ∧
      (∀ j, (s.toContext i f).session j = s.session j) ∧
      (∀ j, (s.toContext i f).console j = s.console j) ∧
      (∀ j, (s.toContext i f).drop j = s.drop j) ∧
      (∀ j, (s.toContext i f).clearance j = s.clearance j) := by
  unfold State.toContext
  try dsimp only
  (repeat' split) <;> simp

@[simp] theorem State.loseMark_frame (s : State) (i : TakeIx) :
      (s.loseMark i).officeTime = s.officeTime ∧
      (s.loseMark i).sessions = s.sessions ∧
      (s.loseMark i).consoles = s.consoles ∧
      (s.loseMark i).typists = s.typists ∧
      (s.loseMark i).drops = s.drops ∧
      (s.loseMark i).clearances = s.clearances ∧
      (s.loseMark i).clearanceLock = s.clearanceLock ∧
      (s.loseMark i).auditFailure = s.auditFailure ∧
      (s.loseMark i).auditCountdown = s.auditCountdown ∧
      (s.loseMark i).lastAuditSum = s.lastAuditSum ∧
      (s.loseMark i).queue = s.queue ∧
      (s.loseMark i).serialCounter = s.serialCounter ∧
      (s.loseMark i).params = s.params ∧
      (s.loseMark i).masks = s.masks ∧
      (s.loseMark i).slot = s.slot ∧
      (s.loseMark i).round = s.round ∧
      (s.loseMark i).inFlight = s.inFlight ∧
      (s.loseMark i).ltx = s.ltx ∧
      (s.loseMark i).miso = s.miso ∧
      (s.loseMark i).passDue = s.passDue ∧
      (s.loseMark i).pending = s.pending ∧
      (∀ j, (s.loseMark i).session j = s.session j) ∧
      (∀ j, (s.loseMark i).console j = s.console j) ∧
      (∀ j, (s.loseMark i).typist j = s.typist j) ∧
      (∀ j, (s.loseMark i).drop j = s.drop j) ∧
      (∀ j, (s.loseMark i).clearance j = s.clearance j) := by
  unfold State.loseMark
  try dsimp only
  simp

@[simp] theorem State.insertMark_frame (s : State) (i : TakeIx) (n : NewMark) (b : Bool) :
      (s.insertMark i n b).2.officeTime = s.officeTime ∧
      (s.insertMark i n b).2.sessions = s.sessions ∧
      (s.insertMark i n b).2.consoles = s.consoles ∧
      (s.insertMark i n b).2.drops = s.drops ∧
      (s.insertMark i n b).2.clearances = s.clearances ∧
      (s.insertMark i n b).2.clearanceLock = s.clearanceLock ∧
      (s.insertMark i n b).2.auditFailure = s.auditFailure ∧
      (s.insertMark i n b).2.auditCountdown = s.auditCountdown ∧
      (s.insertMark i n b).2.lastAuditSum = s.lastAuditSum ∧
      (s.insertMark i n b).2.queue = s.queue ∧
      (s.insertMark i n b).2.serialCounter = s.serialCounter ∧
      (s.insertMark i n b).2.params = s.params ∧
      (s.insertMark i n b).2.masks = s.masks ∧
      (s.insertMark i n b).2.slot = s.slot ∧
      (s.insertMark i n b).2.round = s.round ∧
      (s.insertMark i n b).2.inFlight = s.inFlight ∧
      (s.insertMark i n b).2.ltx = s.ltx ∧
      (s.insertMark i n b).2.miso = s.miso ∧
      (s.insertMark i n b).2.passDue = s.passDue ∧
      (s.insertMark i n b).2.pending = s.pending ∧
      (∀ j, (s.insertMark i n b).2.session j = s.session j) ∧
      (∀ j, (s.insertMark i n b).2.console j = s.console j) ∧
      (∀ j, (s.insertMark i n b).2.drop j = s.drop j) ∧
      (∀ j, (s.insertMark i n b).2.clearance j = s.clearance j) := by
  unfold State.insertMark
  try dsimp only
  (repeat' split) <;> simp

@[simp] theorem State.insertSealStart_frame (s : State) (i : TakeIx) (n : Nat) (l : Level) (w : Option Text) (z : Source) :
      (s.insertSealStart i n l w z).2.officeTime = s.officeTime ∧
      (s.insertSealStart i n l w z).2.sessions = s.sessions ∧
      (s.insertSealStart i n l w z).2.consoles = s.consoles ∧
      (s.insertSealStart i n l w z).2.drops = s.drops ∧
      (s.insertSealStart i n l w z).2.clearances = s.clearances ∧
      (s.insertSealStart i n l w z).2.clearanceLock = s.clearanceLock ∧
      (s.insertSealStart i n l w z).2.auditFailure = s.auditFailure ∧
      (s.insertSealStart i n l w z).2.auditCountdown = s.auditCountdown ∧
      (s.insertSealStart i n l w z).2.lastAuditSum = s.lastAuditSum ∧
      (s.insertSealStart i n l w z).2.queue = s.queue ∧
      (s.insertSealStart i n l w z).2.serialCounter = s.serialCounter ∧
      (s.insertSealStart i n l w z).2.params = s.params ∧
      (s.insertSealStart i n l w z).2.masks = s.masks ∧
      (s.insertSealStart i n l w z).2.slot = s.slot ∧
      (s.insertSealStart i n l w z).2.round = s.round ∧
      (s.insertSealStart i n l w z).2.inFlight = s.inFlight ∧
      (s.insertSealStart i n l w z).2.ltx = s.ltx ∧
      (s.insertSealStart i n l w z).2.miso = s.miso ∧
      (s.insertSealStart i n l w z).2.passDue = s.passDue ∧
      (s.insertSealStart i n l w z).2.pending = s.pending ∧
      (∀ j, (s.insertSealStart i n l w z).2.session j = s.session j) ∧
      (∀ j, (s.insertSealStart i n l w z).2.console j = s.console j) ∧
      (∀ j, (s.insertSealStart i n l w z).2.drop j = s.drop j) ∧
      (∀ j, (s.insertSealStart i n l w z).2.clearance j = s.clearance j) := by
  unfold State.insertSealStart
  try dsimp only
  (repeat' split) <;>
    first
    | (simp; done)
    | (rename_i h; have h' := congrArg Prod.snd h; simp only at h'; simp [← h'])

@[simp] theorem State.openInSlot_frame (s : State) (c : ConsoleIx) (x : SessionIx) (i : TakeIx) :
      (s.openInSlot c x i).officeTime = s.officeTime ∧
      (s.openInSlot c x i).drops = s.drops ∧
      (s.openInSlot c x i).clearances = s.clearances ∧
      (s.openInSlot c x i).clearanceLock = s.clearanceLock ∧
      (s.openInSlot c x i).auditFailure = s.auditFailure ∧
      (s.openInSlot c x i).auditCountdown = s.auditCountdown ∧
      (s.openInSlot c x i).lastAuditSum = s.lastAuditSum ∧
      (s.openInSlot c x i).queue = s.queue ∧
      (s.openInSlot c x i).serialCounter = s.serialCounter ∧
      (s.openInSlot c x i).params = s.params ∧
      (s.openInSlot c x i).masks = s.masks ∧
      (s.openInSlot c x i).slot = s.slot ∧
      (s.openInSlot c x i).round = s.round ∧
      (s.openInSlot c x i).inFlight = s.inFlight ∧
      (s.openInSlot c x i).ltx = s.ltx ∧
      (s.openInSlot c x i).miso = s.miso ∧
      (s.openInSlot c x i).passDue = s.passDue ∧
      (s.openInSlot c x i).pending = s.pending ∧
      (∀ j, (s.openInSlot c x i).drop j = s.drop j) ∧
      (∀ j, (s.openInSlot c x i).clearance j = s.clearance j) := by
  unfold State.openInSlot
  try dsimp only
  (repeat' split) <;> simp

@[simp] theorem State.handOn_frame (s : State) (d : DropIx) (h : Handle) (p : Nat) (ms : List Mark) :
      (s.handOn d h p ms).officeTime = s.officeTime ∧
      (s.handOn d h p ms).takes = s.takes ∧
      (s.handOn d h p ms).sessions = s.sessions ∧
      (s.handOn d h p ms).consoles = s.consoles ∧
      (s.handOn d h p ms).clearances = s.clearances ∧
      (s.handOn d h p ms).clearanceLock = s.clearanceLock ∧
      (s.handOn d h p ms).auditFailure = s.auditFailure ∧
      (s.handOn d h p ms).auditCountdown = s.auditCountdown ∧
      (s.handOn d h p ms).lastAuditSum = s.lastAuditSum ∧
      (s.handOn d h p ms).queue = s.queue ∧
      (s.handOn d h p ms).serialCounter = s.serialCounter ∧
      (s.handOn d h p ms).params = s.params ∧
      (s.handOn d h p ms).events = s.events ∧
      (s.handOn d h p ms).masks = s.masks ∧
      (s.handOn d h p ms).slot = s.slot ∧
      (s.handOn d h p ms).round = s.round ∧
      (s.handOn d h p ms).inFlight = s.inFlight ∧
      (s.handOn d h p ms).ltx = s.ltx ∧
      (s.handOn d h p ms).miso = s.miso ∧
      (s.handOn d h p ms).passDue = s.passDue ∧
      (s.handOn d h p ms).pending = s.pending ∧
      (∀ j, (s.handOn d h p ms).take j = s.take j) ∧
      (∀ j, (s.handOn d h p ms).session j = s.session j) ∧
      (∀ j, (s.handOn d h p ms).console j = s.console j) ∧
      (∀ j, (s.handOn d h p ms).clearance j = s.clearance j) := by
  induction ms generalizing s p with
  | nil => simp [State.handOn]
  | cons e es ih =>
    unfold State.handOn
    simp [ih]

@[simp] theorem State.movePosition_frame (s : State) (t : TypistIx) (i : TakeIx) (c : Context) (n : Nat) :
      (s.movePosition t i c n).officeTime = s.officeTime ∧
      (s.movePosition t i c n).takes = s.takes ∧
      (s.movePosition t i c n).sessions = s.sessions ∧
      (s.movePosition t i c n).consoles = s.consoles ∧
      (s.movePosition t i c n).clearances = s.clearances ∧
      (s.movePosition t i c n).clearanceLock = s.clearanceLock ∧
      (s.movePosition t i c n).auditFailure = s.auditFailure ∧
      (s.movePosition t i c n).auditCountdown = s.auditCountdown ∧
      (s.movePosition t i c n).lastAuditSum = s.lastAuditSum ∧
      (s.movePosition t i c n).queue = s.queue ∧
      (s.movePosition t i c n).serialCounter = s.serialCounter ∧
      (s.movePosition t i c n).params = s.params ∧
      (s.movePosition t i c n).events = s.events ∧
      (s.movePosition t i c n).masks = s.masks ∧
      (s.movePosition t i c n).slot = s.slot ∧
      (s.movePosition t i c n).round = s.round ∧
      (s.movePosition t i c n).inFlight = s.inFlight ∧
      (s.movePosition t i c n).ltx = s.ltx ∧
      (s.movePosition t i c n).miso = s.miso ∧
      (s.movePosition t i c n).passDue = s.passDue ∧
      (s.movePosition t i c n).pending = s.pending ∧
      (∀ j, (s.movePosition t i c n).take j = s.take j) ∧
      (∀ j, (s.movePosition t i c n).session j = s.session j) ∧
      (∀ j, (s.movePosition t i c n).console j = s.console j) ∧
      (∀ j, (s.movePosition t i c n).clearance j = s.clearance j) := by
  unfold State.movePosition
  try dsimp only
  (repeat' split) <;> simp

@[simp] theorem State.activity_frame (s : State) (t : TypistIx) :
      (s.activity t).officeTime = s.officeTime ∧
      (s.activity t).takes = s.takes ∧
      (s.activity t).sessions = s.sessions ∧
      (s.activity t).consoles = s.consoles ∧
      (s.activity t).drops = s.drops ∧
      (s.activity t).clearances = s.clearances ∧
      (s.activity t).clearanceLock = s.clearanceLock ∧
      (s.activity t).auditFailure = s.auditFailure ∧
      (s.activity t).auditCountdown = s.auditCountdown ∧
      (s.activity t).lastAuditSum = s.lastAuditSum ∧
      (s.activity t).queue = s.queue ∧
      (s.activity t).serialCounter = s.serialCounter ∧
      (s.activity t).params = s.params ∧
      (s.activity t).events = s.events ∧
      (s.activity t).masks = s.masks ∧
      (s.activity t).slot = s.slot ∧
      (s.activity t).round = s.round ∧
      (s.activity t).inFlight = s.inFlight ∧
      (s.activity t).ltx = s.ltx ∧
      (s.activity t).miso = s.miso ∧
      (s.activity t).passDue = s.passDue ∧
      (s.activity t).pending = s.pending ∧
      (∀ j, (s.activity t).take j = s.take j) ∧
      (∀ j, (s.activity t).session j = s.session j) ∧
      (∀ j, (s.activity t).console j = s.console j) ∧
      (∀ j, (s.activity t).drop j = s.drop j) ∧
      (∀ j, (s.activity t).clearance j = s.clearance j) := by
  unfold State.activity
  try dsimp only
  simp

@[simp] theorem State.putTo_frame (s : State) (t : TypistIx) (i : TakeIx) (k : PendingKind) (n : TypistState) :
      (s.putTo t i k n).officeTime = s.officeTime ∧
      (s.putTo t i k n).sessions = s.sessions ∧
      (s.putTo t i k n).consoles = s.consoles ∧
      (s.putTo t i k n).drops = s.drops ∧
      (s.putTo t i k n).clearances = s.clearances ∧
      (s.putTo t i k n).clearanceLock = s.clearanceLock ∧
      (s.putTo t i k n).auditFailure = s.auditFailure ∧
      (s.putTo t i k n).auditCountdown = s.auditCountdown ∧
      (s.putTo t i k n).lastAuditSum = s.lastAuditSum ∧
      (s.putTo t i k n).serialCounter = s.serialCounter ∧
      (s.putTo t i k n).params = s.params ∧
      (s.putTo t i k n).events = s.events ∧
      (s.putTo t i k n).masks = s.masks ∧
      (s.putTo t i k n).slot = s.slot ∧
      (s.putTo t i k n).round = s.round ∧
      (s.putTo t i k n).inFlight = s.inFlight ∧
      (s.putTo t i k n).ltx = s.ltx ∧
      (s.putTo t i k n).miso = s.miso ∧
      (s.putTo t i k n).passDue = s.passDue ∧
      (s.putTo t i k n).pending = s.pending ∧
      (∀ j, (s.putTo t i k n).session j = s.session j) ∧
      (∀ j, (s.putTo t i k n).console j = s.console j) ∧
      (∀ j, (s.putTo t i k n).drop j = s.drop j) ∧
      (∀ j, (s.putTo t i k n).clearance j = s.clearance j) := by
  unfold State.putTo
  try dsimp only
  simp

@[simp] theorem State.makeOffer_frame (s : State) (t : TypistIx) (i : TakeIx) :
      (s.makeOffer t i).officeTime = s.officeTime ∧
      (s.makeOffer t i).sessions = s.sessions ∧
      (s.makeOffer t i).consoles = s.consoles ∧
      (s.makeOffer t i).clearances = s.clearances ∧
      (s.makeOffer t i).clearanceLock = s.clearanceLock ∧
      (s.makeOffer t i).auditFailure = s.auditFailure ∧
      (s.makeOffer t i).auditCountdown = s.auditCountdown ∧
      (s.makeOffer t i).lastAuditSum = s.lastAuditSum ∧
      (s.makeOffer t i).serialCounter = s.serialCounter ∧
      (s.makeOffer t i).params = s.params ∧
      (s.makeOffer t i).events = s.events ∧
      (s.makeOffer t i).masks = s.masks ∧
      (s.makeOffer t i).slot = s.slot ∧
      (s.makeOffer t i).round = s.round ∧
      (s.makeOffer t i).inFlight = s.inFlight ∧
      (s.makeOffer t i).ltx = s.ltx ∧
      (s.makeOffer t i).miso = s.miso ∧
      (s.makeOffer t i).passDue = s.passDue ∧
      (s.makeOffer t i).pending = s.pending ∧
      (∀ j, (s.makeOffer t i).session j = s.session j) ∧
      (∀ j, (s.makeOffer t i).console j = s.console j) ∧
      (∀ j, (s.makeOffer t i).clearance j = s.clearance j) := by
  unfold State.makeOffer
  try dsimp only
  simp

@[simp] theorem State.makeSwitch_frame (s : State) (t : TypistIx) (i p : TakeIx) :
      (s.makeSwitch t i p).officeTime = s.officeTime ∧
      (s.makeSwitch t i p).sessions = s.sessions ∧
      (s.makeSwitch t i p).consoles = s.consoles ∧
      (s.makeSwitch t i p).clearances = s.clearances ∧
      (s.makeSwitch t i p).clearanceLock = s.clearanceLock ∧
      (s.makeSwitch t i p).auditFailure = s.auditFailure ∧
      (s.makeSwitch t i p).auditCountdown = s.auditCountdown ∧
      (s.makeSwitch t i p).lastAuditSum = s.lastAuditSum ∧
      (s.makeSwitch t i p).serialCounter = s.serialCounter ∧
      (s.makeSwitch t i p).params = s.params ∧
      (s.makeSwitch t i p).events = s.events ∧
      (s.makeSwitch t i p).masks = s.masks ∧
      (s.makeSwitch t i p).slot = s.slot ∧
      (s.makeSwitch t i p).round = s.round ∧
      (s.makeSwitch t i p).inFlight = s.inFlight ∧
      (s.makeSwitch t i p).ltx = s.ltx ∧
      (s.makeSwitch t i p).miso = s.miso ∧
      (s.makeSwitch t i p).passDue = s.passDue ∧
      (s.makeSwitch t i p).pending = s.pending ∧
      (∀ j, (s.makeSwitch t i p).session j = s.session j) ∧
      (∀ j, (s.makeSwitch t i p).console j = s.console j) ∧
      (∀ j, (s.makeSwitch t i p).clearance j = s.clearance j) := by
  unfold State.makeSwitch
  try dsimp only
  simp

@[simp] theorem State.firstWalk_frame (s : State) (es : List QueueEntry) :
      (s.firstWalk es).officeTime = s.officeTime ∧
      (s.firstWalk es).sessions = s.sessions ∧
      (s.firstWalk es).consoles = s.consoles ∧
      (s.firstWalk es).clearances = s.clearances ∧
      (s.firstWalk es).clearanceLock = s.clearanceLock ∧
      (s.firstWalk es).auditFailure = s.auditFailure ∧
      (s.firstWalk es).auditCountdown = s.auditCountdown ∧
      (s.firstWalk es).lastAuditSum = s.lastAuditSum ∧
      (s.firstWalk es).serialCounter = s.serialCounter ∧
      (s.firstWalk es).params = s.params ∧
      (s.firstWalk es).events = s.events ∧
      (s.firstWalk es).masks = s.masks ∧
      (s.firstWalk es).slot = s.slot ∧
      (s.firstWalk es).round = s.round ∧
      (s.firstWalk es).inFlight = s.inFlight ∧
      (s.firstWalk es).ltx = s.ltx ∧
      (s.firstWalk es).miso = s.miso ∧
      (s.firstWalk es).passDue = s.passDue ∧
      (s.firstWalk es).pending = s.pending ∧
      (∀ j, (s.firstWalk es).session j = s.session j) ∧
      (∀ j, (s.firstWalk es).console j = s.console j) ∧
      (∀ j, (s.firstWalk es).clearance j = s.clearance j) := by
  induction es generalizing s with
  | nil => simp [State.firstWalk]
  | cons e es ih =>
    unfold State.firstWalk
    (try split) <;> simp [ih]

@[simp] theorem State.rushWaits_frame (s : State) (i : TakeIx) :
      (s.rushWaits i).officeTime = s.officeTime ∧
      (s.rushWaits i).takes = s.takes ∧
      (s.rushWaits i).sessions = s.sessions ∧
      (s.rushWaits i).consoles = s.consoles ∧
      (s.rushWaits i).typists = s.typists ∧
      (s.rushWaits i).drops = s.drops ∧
      (s.rushWaits i).clearances = s.clearances ∧
      (s.rushWaits i).clearanceLock = s.clearanceLock ∧
      (s.rushWaits i).auditFailure = s.auditFailure ∧
      (s.rushWaits i).auditCountdown = s.auditCountdown ∧
      (s.rushWaits i).lastAuditSum = s.lastAuditSum ∧
      (s.rushWaits i).serialCounter = s.serialCounter ∧
      (s.rushWaits i).params = s.params ∧
      (s.rushWaits i).masks = s.masks ∧
      (s.rushWaits i).slot = s.slot ∧
      (s.rushWaits i).round = s.round ∧
      (s.rushWaits i).inFlight = s.inFlight ∧
      (s.rushWaits i).ltx = s.ltx ∧
      (s.rushWaits i).miso = s.miso ∧
      (s.rushWaits i).passDue = s.passDue ∧
      (s.rushWaits i).pending = s.pending ∧
      (∀ j, (s.rushWaits i).take j = s.take j) ∧
      (∀ j, (s.rushWaits i).session j = s.session j) ∧
      (∀ j, (s.rushWaits i).console j = s.console j) ∧
      (∀ j, (s.rushWaits i).typist j = s.typist j) ∧
      (∀ j, (s.rushWaits i).drop j = s.drop j) ∧
      (∀ j, (s.rushWaits i).clearance j = s.clearance j) := by
  unfold State.rushWaits
  try dsimp only
  (repeat' split) <;> simp [State.take, State.session, State.console, State.typist, State.drop, State.clearance]

@[simp] theorem State.secondWalk_frame (s : State) (es : List QueueEntry) :
      (s.secondWalk es).officeTime = s.officeTime ∧
      (s.secondWalk es).sessions = s.sessions ∧
      (s.secondWalk es).consoles = s.consoles ∧
      (s.secondWalk es).clearances = s.clearances ∧
      (s.secondWalk es).clearanceLock = s.clearanceLock ∧
      (s.secondWalk es).auditFailure = s.auditFailure ∧
      (s.secondWalk es).auditCountdown = s.auditCountdown ∧
      (s.secondWalk es).lastAuditSum = s.lastAuditSum ∧
      (s.secondWalk es).serialCounter = s.serialCounter ∧
      (s.secondWalk es).params = s.params ∧
      (s.secondWalk es).masks = s.masks ∧
      (s.secondWalk es).slot = s.slot ∧
      (s.secondWalk es).round = s.round ∧
      (s.secondWalk es).inFlight = s.inFlight ∧
      (s.secondWalk es).ltx = s.ltx ∧
      (s.secondWalk es).miso = s.miso ∧
      (s.secondWalk es).passDue = s.passDue ∧
      (s.secondWalk es).pending = s.pending ∧
      (∀ j, (s.secondWalk es).session j = s.session j) ∧
      (∀ j, (s.secondWalk es).console j = s.console j) ∧
      (∀ j, (s.secondWalk es).clearance j = s.clearance j) := by
  induction es generalizing s with
  | nil => simp [State.secondWalk]
  | cons e es ih =>
    unfold State.secondWalk
    (try split) <;> simp [ih]

@[simp] theorem State.placementPass_frame (s : State) :
      (s.placementPass).officeTime = s.officeTime ∧
      (s.placementPass).sessions = s.sessions ∧
      (s.placementPass).consoles = s.consoles ∧
      (s.placementPass).clearances = s.clearances ∧
      (s.placementPass).clearanceLock = s.clearanceLock ∧
      (s.placementPass).auditFailure = s.auditFailure ∧
      (s.placementPass).auditCountdown = s.auditCountdown ∧
      (s.placementPass).lastAuditSum = s.lastAuditSum ∧
      (s.placementPass).serialCounter = s.serialCounter ∧
      (s.placementPass).params = s.params ∧
      (s.placementPass).masks = s.masks ∧
      (s.placementPass).slot = s.slot ∧
      (s.placementPass).round = s.round ∧
      (s.placementPass).inFlight = s.inFlight ∧
      (s.placementPass).ltx = s.ltx ∧
      (s.placementPass).miso = s.miso ∧
      (s.placementPass).passDue = s.passDue ∧
      (s.placementPass).pending = s.pending ∧
      (∀ j, (s.placementPass).session j = s.session j) ∧
      (∀ j, (s.placementPass).console j = s.console j) ∧
      (∀ j, (s.placementPass).clearance j = s.clearance j) := by
  unfold State.placementPass
  try dsimp only
  simp

@[simp] theorem State.settled_frame (s : State) :
      (s.settled).officeTime = s.officeTime ∧
      (s.settled).sessions = s.sessions ∧
      (s.settled).consoles = s.consoles ∧
      (s.settled).clearances = s.clearances ∧
      (s.settled).clearanceLock = s.clearanceLock ∧
      (s.settled).auditFailure = s.auditFailure ∧
      (s.settled).auditCountdown = s.auditCountdown ∧
      (s.settled).lastAuditSum = s.lastAuditSum ∧
      (s.settled).serialCounter = s.serialCounter ∧
      (s.settled).params = s.params ∧
      (s.settled).masks = s.masks ∧
      (s.settled).slot = s.slot ∧
      (s.settled).round = s.round ∧
      (s.settled).inFlight = s.inFlight ∧
      (s.settled).ltx = s.ltx ∧
      (s.settled).miso = s.miso ∧
      (s.settled).pending = s.pending ∧
      (∀ j, (s.settled).session j = s.session j) ∧
      (∀ j, (s.settled).console j = s.console j) ∧
      (∀ j, (s.settled).clearance j = s.clearance j) := by
  unfold State.settled
  try dsimp only
  (repeat' split) <;> simp [State.session, State.console, State.clearance]

@[simp] theorem State.answerDrop_frame (s : State) (d : DropIx) (n : Nat) (r : Result) :
      (s.answerDrop d n r).officeTime = s.officeTime ∧
      (s.answerDrop d n r).takes = s.takes ∧
      (s.answerDrop d n r).sessions = s.sessions ∧
      (s.answerDrop d n r).consoles = s.consoles ∧
      (s.answerDrop d n r).clearances = s.clearances ∧
      (s.answerDrop d n r).clearanceLock = s.clearanceLock ∧
      (s.answerDrop d n r).auditFailure = s.auditFailure ∧
      (s.answerDrop d n r).auditCountdown = s.auditCountdown ∧
      (s.answerDrop d n r).lastAuditSum = s.lastAuditSum ∧
      (s.answerDrop d n r).queue = s.queue ∧
      (s.answerDrop d n r).serialCounter = s.serialCounter ∧
      (s.answerDrop d n r).params = s.params ∧
      (s.answerDrop d n r).events = s.events ∧
      (s.answerDrop d n r).masks = s.masks ∧
      (s.answerDrop d n r).slot = s.slot ∧
      (s.answerDrop d n r).round = s.round ∧
      (s.answerDrop d n r).inFlight = s.inFlight ∧
      (s.answerDrop d n r).ltx = s.ltx ∧
      (s.answerDrop d n r).miso = s.miso ∧
      (s.answerDrop d n r).passDue = s.passDue ∧
      (s.answerDrop d n r).pending = s.pending ∧
      (∀ j, (s.answerDrop d n r).take j = s.take j) ∧
      (∀ j, (s.answerDrop d n r).session j = s.session j) ∧
      (∀ j, (s.answerDrop d n r).console j = s.console j) ∧
      (∀ j, (s.answerDrop d n r).clearance j = s.clearance j) := by
  unfold State.answerDrop
  try dsimp only
  simp

@[simp] theorem State.requestActivity_frame (s : State) (d : DropIx) :
      (s.requestActivity d).officeTime = s.officeTime ∧
      (s.requestActivity d).takes = s.takes ∧
      (s.requestActivity d).sessions = s.sessions ∧
      (s.requestActivity d).consoles = s.consoles ∧
      (s.requestActivity d).drops = s.drops ∧
      (s.requestActivity d).clearances = s.clearances ∧
      (s.requestActivity d).clearanceLock = s.clearanceLock ∧
      (s.requestActivity d).auditFailure = s.auditFailure ∧
      (s.requestActivity d).auditCountdown = s.auditCountdown ∧
      (s.requestActivity d).lastAuditSum = s.lastAuditSum ∧
      (s.requestActivity d).queue = s.queue ∧
      (s.requestActivity d).serialCounter = s.serialCounter ∧
      (s.requestActivity d).params = s.params ∧
      (s.requestActivity d).events = s.events ∧
      (s.requestActivity d).masks = s.masks ∧
      (s.requestActivity d).slot = s.slot ∧
      (s.requestActivity d).round = s.round ∧
      (s.requestActivity d).inFlight = s.inFlight ∧
      (s.requestActivity d).ltx = s.ltx ∧
      (s.requestActivity d).miso = s.miso ∧
      (s.requestActivity d).passDue = s.passDue ∧
      (s.requestActivity d).pending = s.pending ∧
      (∀ j, (s.requestActivity d).take j = s.take j) ∧
      (∀ j, (s.requestActivity d).session j = s.session j) ∧
      (∀ j, (s.requestActivity d).console j = s.console j) ∧
      (∀ j, (s.requestActivity d).drop j = s.drop j) ∧
      (∀ j, (s.requestActivity d).clearance j = s.clearance j) := by
  unfold State.requestActivity
  try dsimp only
  (repeat' split) <;> simp

@[simp] theorem State.offerExpires_frame (s : State) (t : TypistIx) :
      (s.offerExpires t).officeTime = s.officeTime ∧
      (s.offerExpires t).sessions = s.sessions ∧
      (s.offerExpires t).consoles = s.consoles ∧
      (s.offerExpires t).clearances = s.clearances ∧
      (s.offerExpires t).clearanceLock = s.clearanceLock ∧
      (s.offerExpires t).auditFailure = s.auditFailure ∧
      (s.offerExpires t).auditCountdown = s.auditCountdown ∧
      (s.offerExpires t).lastAuditSum = s.lastAuditSum ∧
      (s.offerExpires t).serialCounter = s.serialCounter ∧
      (s.offerExpires t).params = s.params ∧
      (s.offerExpires t).events = s.events ∧
      (s.offerExpires t).masks = s.masks ∧
      (s.offerExpires t).slot = s.slot ∧
      (s.offerExpires t).round = s.round ∧
      (s.offerExpires t).inFlight = s.inFlight ∧
      (s.offerExpires t).ltx = s.ltx ∧
      (s.offerExpires t).miso = s.miso ∧
      (s.offerExpires t).pending = s.pending ∧
      (∀ j, (s.offerExpires t).session j = s.session j) ∧
      (∀ j, (s.offerExpires t).console j = s.console j) ∧
      (∀ j, (s.offerExpires t).clearance j = s.clearance j) := by
  unfold State.offerExpires
  try dsimp only
  (repeat' split) <;> simp

@[simp] theorem State.offerExpiries_frame (s : State) :
      (s.offerExpiries).officeTime = s.officeTime ∧
      (s.offerExpiries).sessions = s.sessions ∧
      (s.offerExpiries).consoles = s.consoles ∧
      (s.offerExpiries).clearances = s.clearances ∧
      (s.offerExpiries).clearanceLock = s.clearanceLock ∧
      (s.offerExpiries).auditFailure = s.auditFailure ∧
      (s.offerExpiries).auditCountdown = s.auditCountdown ∧
      (s.offerExpiries).lastAuditSum = s.lastAuditSum ∧
      (s.offerExpiries).serialCounter = s.serialCounter ∧
      (s.offerExpiries).params = s.params ∧
      (s.offerExpiries).events = s.events ∧
      (s.offerExpiries).masks = s.masks ∧
      (s.offerExpiries).slot = s.slot ∧
      (s.offerExpiries).round = s.round ∧
      (s.offerExpiries).inFlight = s.inFlight ∧
      (s.offerExpiries).ltx = s.ltx ∧
      (s.offerExpiries).miso = s.miso ∧
      (s.offerExpiries).pending = s.pending ∧
      (∀ j, (s.offerExpiries).session j = s.session j) ∧
      (∀ j, (s.offerExpiries).console j = s.console j) ∧
      (∀ j, (s.offerExpiries).clearance j = s.clearance j) := by
  unfold State.offerExpiries
  exact ⟨foldl_keeps State.officeTime _ (fun s a => by split <;> simp) _ _,
    foldl_keeps State.sessions _ (fun s a => by split <;> simp) _ _,
    foldl_keeps State.consoles _ (fun s a => by split <;> simp) _ _,
    foldl_keeps State.clearances _ (fun s a => by split <;> simp) _ _,
    foldl_keeps State.clearanceLock _ (fun s a => by split <;> simp) _ _,
    foldl_keeps State.auditFailure _ (fun s a => by split <;> simp) _ _,
    foldl_keeps State.auditCountdown _ (fun s a => by split <;> simp) _ _,
    foldl_keeps State.lastAuditSum _ (fun s a => by split <;> simp) _ _,
    foldl_keeps State.serialCounter _ (fun s a => by split <;> simp) _ _,
    foldl_keeps State.params _ (fun s a => by split <;> simp) _ _,
    foldl_keeps State.events _ (fun s a => by split <;> simp) _ _,
    foldl_keeps State.masks _ (fun s a => by split <;> simp) _ _,
    foldl_keeps State.slot _ (fun s a => by split <;> simp) _ _,
    foldl_keeps State.round _ (fun s a => by split <;> simp) _ _,
    foldl_keeps State.inFlight _ (fun s a => by split <;> simp) _ _,
    foldl_keeps State.ltx _ (fun s a => by split <;> simp) _ _,
    foldl_keeps State.miso _ (fun s a => by split <;> simp) _ _,
    foldl_keeps State.pending _ (fun s a => by split <;> simp) _ _,
    fun j => foldl_keeps (fun s => State.session s j) _ (fun s a => by split <;> simp) _ _,
    fun j => foldl_keeps (fun s => State.console s j) _ (fun s a => by split <;> simp) _ _,
    fun j => foldl_keeps (fun s => State.clearance s j) _ (fun s a => by split <;> simp) _ _⟩

@[simp] theorem State.typistGraceExpiries_frame (s : State) :
      (s.typistGraceExpiries).officeTime = s.officeTime ∧
      (s.typistGraceExpiries).sessions = s.sessions ∧
      (s.typistGraceExpiries).consoles = s.consoles ∧
      (s.typistGraceExpiries).drops = s.drops ∧
      (s.typistGraceExpiries).clearances = s.clearances ∧
      (s.typistGraceExpiries).clearanceLock = s.clearanceLock ∧
      (s.typistGraceExpiries).auditFailure = s.auditFailure ∧
      (s.typistGraceExpiries).auditCountdown = s.auditCountdown ∧
      (s.typistGraceExpiries).lastAuditSum = s.lastAuditSum ∧
      (s.typistGraceExpiries).params = s.params ∧
      (s.typistGraceExpiries).masks = s.masks ∧
      (s.typistGraceExpiries).slot = s.slot ∧
      (s.typistGraceExpiries).round = s.round ∧
      (s.typistGraceExpiries).inFlight = s.inFlight ∧
      (s.typistGraceExpiries).ltx = s.ltx ∧
      (s.typistGraceExpiries).miso = s.miso ∧
      (s.typistGraceExpiries).pending = s.pending ∧
      (∀ j, (s.typistGraceExpiries).session j = s.session j) ∧
      (∀ j, (s.typistGraceExpiries).console j = s.console j) ∧
      (∀ j, (s.typistGraceExpiries).drop j = s.drop j) ∧
      (∀ j, (s.typistGraceExpiries).clearance j = s.clearance j) := by
  unfold State.typistGraceExpiries
  exact ⟨foldl_keeps State.officeTime _ (fun s a => by split <;> simp) _ _,
    foldl_keeps State.sessions _ (fun s a => by split <;> simp) _ _,
    foldl_keeps State.consoles _ (fun s a => by split <;> simp) _ _,
    foldl_keeps State.drops _ (fun s a => by split <;> simp) _ _,
    foldl_keeps State.clearances _ (fun s a => by split <;> simp) _ _,
    foldl_keeps State.clearanceLock _ (fun s a => by split <;> simp) _ _,
    foldl_keeps State.auditFailure _ (fun s a => by split <;> simp) _ _,
    foldl_keeps State.auditCountdown _ (fun s a => by split <;> simp) _ _,
    foldl_keeps State.lastAuditSum _ (fun s a => by split <;> simp) _ _,
    foldl_keeps State.params _ (fun s a => by split <;> simp) _ _,
    foldl_keeps State.masks _ (fun s a => by split <;> simp) _ _,
    foldl_keeps State.slot _ (fun s a => by split <;> simp) _ _,
    foldl_keeps State.round _ (fun s a => by split <;> simp) _ _,
    foldl_keeps State.inFlight _ (fun s a => by split <;> simp) _ _,
    foldl_keeps State.ltx _ (fun s a => by split <;> simp) _ _,
    foldl_keeps State.miso _ (fun s a => by split <;> simp) _ _,
    foldl_keeps State.pending _ (fun s a => by split <;> simp) _ _,
    fun j => foldl_keeps (fun s => State.session s j) _ (fun s a => by split <;> simp) _ _,
    fun j => foldl_keeps (fun s => State.console s j) _ (fun s a => by split <;> simp) _ _,
    fun j => foldl_keeps (fun s => State.drop s j) _ (fun s a => by split <;> simp) _ _,
    fun j => foldl_keeps (fun s => State.clearance s j) _ (fun s a => by split <;> simp) _ _⟩

@[simp] theorem State.consoleGraceExpiries_frame (s : State) :
      (s.consoleGraceExpiries).officeTime = s.officeTime ∧
      (s.consoleGraceExpiries).typists = s.typists ∧
      (s.consoleGraceExpiries).drops = s.drops ∧
      (s.consoleGraceExpiries).clearances = s.clearances ∧
      (s.consoleGraceExpiries).clearanceLock = s.clearanceLock ∧
      (s.consoleGraceExpiries).auditFailure = s.auditFailure ∧
      (s.consoleGraceExpiries).auditCountdown = s.auditCountdown ∧
      (s.consoleGraceExpiries).lastAuditSum = s.lastAuditSum ∧
      (s.consoleGraceExpiries).params = s.params ∧
      (s.consoleGraceExpiries).masks = s.masks ∧
      (s.consoleGraceExpiries).slot = s.slot ∧
      (s.consoleGraceExpiries).round = s.round ∧
      (s.consoleGraceExpiries).inFlight = s.inFlight ∧
      (s.consoleGraceExpiries).ltx = s.ltx ∧
      (s.consoleGraceExpiries).miso = s.miso ∧
      (s.consoleGraceExpiries).pending = s.pending ∧
      (∀ j, (s.consoleGraceExpiries).typist j = s.typist j) ∧
      (∀ j, (s.consoleGraceExpiries).drop j = s.drop j) ∧
      (∀ j, (s.consoleGraceExpiries).clearance j = s.clearance j) := by
  unfold State.consoleGraceExpiries
  exact ⟨foldl_keeps State.officeTime _ (fun s a => by split <;> simp) _ _,
    foldl_keeps State.typists _ (fun s a => by split <;> simp) _ _,
    foldl_keeps State.drops _ (fun s a => by split <;> simp) _ _,
    foldl_keeps State.clearances _ (fun s a => by split <;> simp) _ _,
    foldl_keeps State.clearanceLock _ (fun s a => by split <;> simp) _ _,
    foldl_keeps State.auditFailure _ (fun s a => by split <;> simp) _ _,
    foldl_keeps State.auditCountdown _ (fun s a => by split <;> simp) _ _,
    foldl_keeps State.lastAuditSum _ (fun s a => by split <;> simp) _ _,
    foldl_keeps State.params _ (fun s a => by split <;> simp) _ _,
    foldl_keeps State.masks _ (fun s a => by split <;> simp) _ _,
    foldl_keeps State.slot _ (fun s a => by split <;> simp) _ _,
    foldl_keeps State.round _ (fun s a => by split <;> simp) _ _,
    foldl_keeps State.inFlight _ (fun s a => by split <;> simp) _ _,
    foldl_keeps State.ltx _ (fun s a => by split <;> simp) _ _,
    foldl_keeps State.miso _ (fun s a => by split <;> simp) _ _,
    foldl_keeps State.pending _ (fun s a => by split <;> simp) _ _,
    fun j => foldl_keeps (fun s => State.typist s j) _ (fun s a => by split <;> simp) _ _,
    fun j => foldl_keeps (fun s => State.drop s j) _ (fun s a => by split <;> simp) _ _,
    fun j => foldl_keeps (fun s => State.clearance s j) _ (fun s a => by split <;> simp) _ _⟩

@[simp] theorem State.checkWindow_frame (s : State) (c : ConsoleIx) :
      (s.checkWindow c).officeTime = s.officeTime ∧
      (s.checkWindow c).sessions = s.sessions ∧
      (s.checkWindow c).typists = s.typists ∧
      (s.checkWindow c).drops = s.drops ∧
      (s.checkWindow c).clearances = s.clearances ∧
      (s.checkWindow c).clearanceLock = s.clearanceLock ∧
      (s.checkWindow c).auditFailure = s.auditFailure ∧
      (s.checkWindow c).auditCountdown = s.auditCountdown ∧
      (s.checkWindow c).lastAuditSum = s.lastAuditSum ∧
      (s.checkWindow c).queue = s.queue ∧
      (s.checkWindow c).serialCounter = s.serialCounter ∧
      (s.checkWindow c).params = s.params ∧
      (s.checkWindow c).masks = s.masks ∧
      (s.checkWindow c).slot = s.slot ∧
      (s.checkWindow c).round = s.round ∧
      (s.checkWindow c).inFlight = s.inFlight ∧
      (s.checkWindow c).ltx = s.ltx ∧
      (s.checkWindow c).miso = s.miso ∧
      (s.checkWindow c).passDue = s.passDue ∧
      (s.checkWindow c).pending = s.pending ∧
      (∀ j, (s.checkWindow c).session j = s.session j) ∧
      (∀ j, (s.checkWindow c).typist j = s.typist j) ∧
      (∀ j, (s.checkWindow c).drop j = s.drop j) ∧
      (∀ j, (s.checkWindow c).clearance j = s.clearance j) := by
  unfold State.checkWindow
  try dsimp only
  (repeat' split) <;> simp

@[simp] theorem State.driftChecks_frame (s : State) :
      (s.driftChecks).officeTime = s.officeTime ∧
      (s.driftChecks).sessions = s.sessions ∧
      (s.driftChecks).typists = s.typists ∧
      (s.driftChecks).drops = s.drops ∧
      (s.driftChecks).clearances = s.clearances ∧
      (s.driftChecks).clearanceLock = s.clearanceLock ∧
      (s.driftChecks).auditFailure = s.auditFailure ∧
      (s.driftChecks).auditCountdown = s.auditCountdown ∧
      (s.driftChecks).lastAuditSum = s.lastAuditSum ∧
      (s.driftChecks).queue = s.queue ∧
      (s.driftChecks).serialCounter = s.serialCounter ∧
      (s.driftChecks).params = s.params ∧
      (s.driftChecks).masks = s.masks ∧
      (s.driftChecks).slot = s.slot ∧
      (s.driftChecks).round = s.round ∧
      (s.driftChecks).inFlight = s.inFlight ∧
      (s.driftChecks).ltx = s.ltx ∧
      (s.driftChecks).miso = s.miso ∧
      (s.driftChecks).passDue = s.passDue ∧
      (s.driftChecks).pending = s.pending ∧
      (∀ j, (s.driftChecks).session j = s.session j) ∧
      (∀ j, (s.driftChecks).typist j = s.typist j) ∧
      (∀ j, (s.driftChecks).drop j = s.drop j) ∧
      (∀ j, (s.driftChecks).clearance j = s.clearance j) := by
  unfold State.driftChecks
  exact ⟨foldl_keeps State.officeTime _ (fun s a => by split <;> simp) _ _,
    foldl_keeps State.sessions _ (fun s a => by split <;> simp) _ _,
    foldl_keeps State.typists _ (fun s a => by split <;> simp) _ _,
    foldl_keeps State.drops _ (fun s a => by split <;> simp) _ _,
    foldl_keeps State.clearances _ (fun s a => by split <;> simp) _ _,
    foldl_keeps State.clearanceLock _ (fun s a => by split <;> simp) _ _,
    foldl_keeps State.auditFailure _ (fun s a => by split <;> simp) _ _,
    foldl_keeps State.auditCountdown _ (fun s a => by split <;> simp) _ _,
    foldl_keeps State.lastAuditSum _ (fun s a => by split <;> simp) _ _,
    foldl_keeps State.queue _ (fun s a => by split <;> simp) _ _,
    foldl_keeps State.serialCounter _ (fun s a => by split <;> simp) _ _,
    foldl_keeps State.params _ (fun s a => by split <;> simp) _ _,
    foldl_keeps State.masks _ (fun s a => by split <;> simp) _ _,
    foldl_keeps State.slot _ (fun s a => by split <;> simp) _ _,
    foldl_keeps State.round _ (fun s a => by split <;> simp) _ _,
    foldl_keeps State.inFlight _ (fun s a => by split <;> simp) _ _,
    foldl_keeps State.ltx _ (fun s a => by split <;> simp) _ _,
    foldl_keeps State.miso _ (fun s a => by split <;> simp) _ _,
    foldl_keeps State.passDue _ (fun s a => by split <;> simp) _ _,
    foldl_keeps State.pending _ (fun s a => by split <;> simp) _ _,
    fun j => foldl_keeps (fun s => State.session s j) _ (fun s a => by split <;> simp) _ _,
    fun j => foldl_keeps (fun s => State.typist s j) _ (fun s a => by split <;> simp) _ _,
    fun j => foldl_keeps (fun s => State.drop s j) _ (fun s a => by split <;> simp) _ _,
    fun j => foldl_keeps (fun s => State.clearance s j) _ (fun s a => by split <;> simp) _ _⟩

@[simp] theorem State.withdrawSealedOffer_frame (s : State) (t : TypistIx) :
      (s.withdrawSealedOffer t).officeTime = s.officeTime ∧
      (s.withdrawSealedOffer t).sessions = s.sessions ∧
      (s.withdrawSealedOffer t).consoles = s.consoles ∧
      (s.withdrawSealedOffer t).clearances = s.clearances ∧
      (s.withdrawSealedOffer t).clearanceLock = s.clearanceLock ∧
      (s.withdrawSealedOffer t).auditFailure = s.auditFailure ∧
      (s.withdrawSealedOffer t).auditCountdown = s.auditCountdown ∧
      (s.withdrawSealedOffer t).lastAuditSum = s.lastAuditSum ∧
      (s.withdrawSealedOffer t).serialCounter = s.serialCounter ∧
      (s.withdrawSealedOffer t).params = s.params ∧
      (s.withdrawSealedOffer t).events = s.events ∧
      (s.withdrawSealedOffer t).masks = s.masks ∧
      (s.withdrawSealedOffer t).slot = s.slot ∧
      (s.withdrawSealedOffer t).round = s.round ∧
      (s.withdrawSealedOffer t).inFlight = s.inFlight ∧
      (s.withdrawSealedOffer t).ltx = s.ltx ∧
      (s.withdrawSealedOffer t).miso = s.miso ∧
      (s.withdrawSealedOffer t).pending = s.pending ∧
      (∀ j, (s.withdrawSealedOffer t).session j = s.session j) ∧
      (∀ j, (s.withdrawSealedOffer t).console j = s.console j) ∧
      (∀ j, (s.withdrawSealedOffer t).clearance j = s.clearance j) := by
  unfold State.withdrawSealedOffer
  try dsimp only
  (repeat' split) <;> simp

@[simp] theorem State.withdrawSealedOffers_frame (s : State) (l : List TypistIx) :
      (l.foldl State.withdrawSealedOffer s).officeTime = s.officeTime ∧
      (l.foldl State.withdrawSealedOffer s).sessions = s.sessions ∧
      (l.foldl State.withdrawSealedOffer s).consoles = s.consoles ∧
      (l.foldl State.withdrawSealedOffer s).clearances = s.clearances ∧
      (l.foldl State.withdrawSealedOffer s).clearanceLock = s.clearanceLock ∧
      (l.foldl State.withdrawSealedOffer s).auditFailure = s.auditFailure ∧
      (l.foldl State.withdrawSealedOffer s).auditCountdown = s.auditCountdown ∧
      (l.foldl State.withdrawSealedOffer s).lastAuditSum = s.lastAuditSum ∧
      (l.foldl State.withdrawSealedOffer s).serialCounter = s.serialCounter ∧
      (l.foldl State.withdrawSealedOffer s).params = s.params ∧
      (l.foldl State.withdrawSealedOffer s).events = s.events ∧
      (l.foldl State.withdrawSealedOffer s).masks = s.masks ∧
      (l.foldl State.withdrawSealedOffer s).slot = s.slot ∧
      (l.foldl State.withdrawSealedOffer s).round = s.round ∧
      (l.foldl State.withdrawSealedOffer s).inFlight = s.inFlight ∧
      (l.foldl State.withdrawSealedOffer s).ltx = s.ltx ∧
      (l.foldl State.withdrawSealedOffer s).miso = s.miso ∧
      (l.foldl State.withdrawSealedOffer s).pending = s.pending ∧
      (∀ j, (l.foldl State.withdrawSealedOffer s).session j = s.session j) ∧
      (∀ j, (l.foldl State.withdrawSealedOffer s).console j = s.console j) ∧
      (∀ j, (l.foldl State.withdrawSealedOffer s).clearance j = s.clearance j) := by
  induction l generalizing s with
  | nil => simp
  | cons e es ih => simp [ih]

@[simp] theorem State.audit_frame (s : State) :
      (s.audit).officeTime = s.officeTime ∧
      (s.audit).sessions = s.sessions ∧
      (s.audit).consoles = s.consoles ∧
      (s.audit).clearances = s.clearances ∧
      (s.audit).clearanceLock = s.clearanceLock ∧
      (s.audit).auditCountdown = s.auditCountdown ∧
      (s.audit).serialCounter = s.serialCounter ∧
      (s.audit).params = s.params ∧
      (s.audit).masks = s.masks ∧
      (s.audit).slot = s.slot ∧
      (s.audit).round = s.round ∧
      (s.audit).inFlight = s.inFlight ∧
      (s.audit).ltx = s.ltx ∧
      (s.audit).miso = s.miso ∧
      (s.audit).pending = s.pending ∧
      (∀ j, (s.audit).session j = s.session j) ∧
      (∀ j, (s.audit).console j = s.console j) ∧
      (∀ j, (s.audit).clearance j = s.clearance j) := by
  unfold State.audit
  try dsimp only
  (repeat' split) <;> simp [State.session, State.console, State.clearance]

@[simp] theorem State.auditExpiry_frame (s : State) :
      (s.auditExpiry).officeTime = s.officeTime ∧
      (s.auditExpiry).sessions = s.sessions ∧
      (s.auditExpiry).consoles = s.consoles ∧
      (s.auditExpiry).clearances = s.clearances ∧
      (s.auditExpiry).clearanceLock = s.clearanceLock ∧
      (s.auditExpiry).serialCounter = s.serialCounter ∧
      (s.auditExpiry).params = s.params ∧
      (s.auditExpiry).masks = s.masks ∧
      (s.auditExpiry).slot = s.slot ∧
      (s.auditExpiry).round = s.round ∧
      (s.auditExpiry).inFlight = s.inFlight ∧
      (s.auditExpiry).ltx = s.ltx ∧
      (s.auditExpiry).miso = s.miso ∧
      (s.auditExpiry).pending = s.pending ∧
      (∀ j, (s.auditExpiry).session j = s.session j) ∧
      (∀ j, (s.auditExpiry).console j = s.console j) ∧
      (∀ j, (s.auditExpiry).clearance j = s.clearance j) := by
  unfold State.auditExpiry
  try dsimp only
  (repeat' split) <;> simp

@[simp] theorem State.finishTick_frame (s : State) :
      (s.finishTick).officeTime = s.officeTime ∧
      (s.finishTick).clearances = s.clearances ∧
      (s.finishTick).clearanceLock = s.clearanceLock ∧
      (s.finishTick).params = s.params ∧
      (s.finishTick).masks = s.masks ∧
      (s.finishTick).slot = s.slot ∧
      (s.finishTick).round = s.round ∧
      (s.finishTick).inFlight = s.inFlight ∧
      (s.finishTick).ltx = s.ltx ∧
      (s.finishTick).miso = s.miso ∧
      (s.finishTick).pending = s.pending ∧
      (∀ j, (s.finishTick).clearance j = s.clearance j) := by
  unfold State.finishTick
  try dsimp only
  simp

@[simp] theorem State.raiseWhen_frame (s : State) (b : Bool) (e : Event) :
      (s.raiseWhen b e).officeTime = s.officeTime ∧
      (s.raiseWhen b e).takes = s.takes ∧
      (s.raiseWhen b e).sessions = s.sessions ∧
      (s.raiseWhen b e).consoles = s.consoles ∧
      (s.raiseWhen b e).typists = s.typists ∧
      (s.raiseWhen b e).drops = s.drops ∧
      (s.raiseWhen b e).clearances = s.clearances ∧
      (s.raiseWhen b e).clearanceLock = s.clearanceLock ∧
      (s.raiseWhen b e).auditFailure = s.auditFailure ∧
      (s.raiseWhen b e).auditCountdown = s.auditCountdown ∧
      (s.raiseWhen b e).lastAuditSum = s.lastAuditSum ∧
      (s.raiseWhen b e).queue = s.queue ∧
      (s.raiseWhen b e).serialCounter = s.serialCounter ∧
      (s.raiseWhen b e).params = s.params ∧
      (s.raiseWhen b e).masks = s.masks ∧
      (s.raiseWhen b e).slot = s.slot ∧
      (s.raiseWhen b e).round = s.round ∧
      (s.raiseWhen b e).inFlight = s.inFlight ∧
      (s.raiseWhen b e).ltx = s.ltx ∧
      (s.raiseWhen b e).miso = s.miso ∧
      (s.raiseWhen b e).passDue = s.passDue ∧
      (s.raiseWhen b e).pending = s.pending ∧
      (∀ j, (s.raiseWhen b e).take j = s.take j) ∧
      (∀ j, (s.raiseWhen b e).session j = s.session j) ∧
      (∀ j, (s.raiseWhen b e).console j = s.console j) ∧
      (∀ j, (s.raiseWhen b e).typist j = s.typist j) ∧
      (∀ j, (s.raiseWhen b e).drop j = s.drop j) ∧
      (∀ j, (s.raiseWhen b e).clearance j = s.clearance j) := by
  unfold State.raiseWhen
  try dsimp only
  (repeat' split) <;> simp

@[simp] theorem State.monitor_frame (s : State) :
      (s.monitor).officeTime = s.officeTime ∧
      (s.monitor).sessions = s.sessions ∧
      (s.monitor).consoles = s.consoles ∧
      (s.monitor).typists = s.typists ∧
      (s.monitor).drops = s.drops ∧
      (s.monitor).clearances = s.clearances ∧
      (s.monitor).clearanceLock = s.clearanceLock ∧
      (s.monitor).auditFailure = s.auditFailure ∧
      (s.monitor).auditCountdown = s.auditCountdown ∧
      (s.monitor).lastAuditSum = s.lastAuditSum ∧
      (s.monitor).queue = s.queue ∧
      (s.monitor).serialCounter = s.serialCounter ∧
      (s.monitor).params = s.params ∧
      (s.monitor).masks = s.masks ∧
      (s.monitor).slot = s.slot ∧
      (s.monitor).round = s.round ∧
      (s.monitor).inFlight = s.inFlight ∧
      (s.monitor).ltx = s.ltx ∧
      (s.monitor).miso = s.miso ∧
      (s.monitor).passDue = s.passDue ∧
      (s.monitor).pending = s.pending ∧
      (∀ j, (s.monitor).session j = s.session j) ∧
      (∀ j, (s.monitor).console j = s.console j) ∧
      (∀ j, (s.monitor).typist j = s.typist j) ∧
      (∀ j, (s.monitor).drop j = s.drop j) ∧
      (∀ j, (s.monitor).clearance j = s.clearance j) := by
  unfold State.monitor
  try dsimp only
  simp [State.session, State.console, State.typist, State.drop, State.clearance]

@[simp] theorem State.tick_frame (s : State) :
      (s.tick).sessions = s.sessions ∧
      (s.tick).drops = s.drops ∧
      (s.tick).clearances = s.clearances ∧
      (s.tick).clearanceLock = s.clearanceLock ∧
      (s.tick).auditFailure = s.auditFailure ∧
      (s.tick).lastAuditSum = s.lastAuditSum ∧
      (s.tick).queue = s.queue ∧
      (s.tick).serialCounter = s.serialCounter ∧
      (s.tick).params = s.params ∧
      (s.tick).masks = s.masks ∧
      (s.tick).slot = s.slot ∧
      (s.tick).round = s.round ∧
      (s.tick).inFlight = s.inFlight ∧
      (s.tick).ltx = s.ltx ∧
      (s.tick).miso = s.miso ∧
      (s.tick).passDue = s.passDue ∧
      (s.tick).pending = s.pending ∧
      (∀ j, (s.tick).session j = s.session j) ∧
      (∀ j, (s.tick).drop j = s.drop j) ∧
      (∀ j, (s.tick).clearance j = s.clearance j) := by
  unfold State.tick
  try dsimp only
  simp [State.session, State.drop, State.clearance]

@[simp] theorem State.setOfficeTime_frame (s : State) (v : Nat) :
      (s.setOfficeTime v).takes = s.takes ∧
      (s.setOfficeTime v).sessions = s.sessions ∧
      (s.setOfficeTime v).drops = s.drops ∧
      (s.setOfficeTime v).clearances = s.clearances ∧
      (s.setOfficeTime v).clearanceLock = s.clearanceLock ∧
      (s.setOfficeTime v).auditFailure = s.auditFailure ∧
      (s.setOfficeTime v).auditCountdown = s.auditCountdown ∧
      (s.setOfficeTime v).lastAuditSum = s.lastAuditSum ∧
      (s.setOfficeTime v).queue = s.queue ∧
      (s.setOfficeTime v).serialCounter = s.serialCounter ∧
      (s.setOfficeTime v).params = s.params ∧
      (s.setOfficeTime v).events = s.events ∧
      (s.setOfficeTime v).masks = s.masks ∧
      (s.setOfficeTime v).slot = s.slot ∧
      (s.setOfficeTime v).round = s.round ∧
      (s.setOfficeTime v).inFlight = s.inFlight ∧
      (s.setOfficeTime v).ltx = s.ltx ∧
      (s.setOfficeTime v).miso = s.miso ∧
      (s.setOfficeTime v).passDue = s.passDue ∧
      (s.setOfficeTime v).pending = s.pending ∧
      (∀ j, (s.setOfficeTime v).take j = s.take j) ∧
      (∀ j, (s.setOfficeTime v).session j = s.session j) ∧
      (∀ j, (s.setOfficeTime v).drop j = s.drop j) ∧
      (∀ j, (s.setOfficeTime v).clearance j = s.clearance j) := by
  simp [State.setOfficeTime, State.take, State.session, State.drop, State.clearance]

@[simp] theorem State.tryOpen_frame (s : State) (c : ConsoleIx) (x : SessionIx) :
      (s.tryOpen c x).2.officeTime = s.officeTime ∧
      (s.tryOpen c x).2.drops = s.drops ∧
      (s.tryOpen c x).2.clearances = s.clearances ∧
      (s.tryOpen c x).2.clearanceLock = s.clearanceLock ∧
      (s.tryOpen c x).2.auditFailure = s.auditFailure ∧
      (s.tryOpen c x).2.auditCountdown = s.auditCountdown ∧
      (s.tryOpen c x).2.lastAuditSum = s.lastAuditSum ∧
      (s.tryOpen c x).2.queue = s.queue ∧
      (s.tryOpen c x).2.serialCounter = s.serialCounter ∧
      (s.tryOpen c x).2.params = s.params ∧
      (s.tryOpen c x).2.masks = s.masks ∧
      (s.tryOpen c x).2.slot = s.slot ∧
      (s.tryOpen c x).2.round = s.round ∧
      (s.tryOpen c x).2.inFlight = s.inFlight ∧
      (s.tryOpen c x).2.ltx = s.ltx ∧
      (s.tryOpen c x).2.miso = s.miso ∧
      (s.tryOpen c x).2.passDue = s.passDue ∧
      (s.tryOpen c x).2.pending = s.pending ∧
      (∀ j, (s.tryOpen c x).2.drop j = s.drop j) ∧
      (∀ j, (s.tryOpen c x).2.clearance j = s.clearance j) := by
  unfold State.tryOpen
  try dsimp only
  (repeat' split) <;> simp

@[simp] theorem State.endSession_frame (s : State) (x : SessionIx) :
      (s.endSession x).officeTime = s.officeTime ∧
      (s.endSession x).typists = s.typists ∧
      (s.endSession x).drops = s.drops ∧
      (s.endSession x).clearances = s.clearances ∧
      (s.endSession x).clearanceLock = s.clearanceLock ∧
      (s.endSession x).auditFailure = s.auditFailure ∧
      (s.endSession x).auditCountdown = s.auditCountdown ∧
      (s.endSession x).lastAuditSum = s.lastAuditSum ∧
      (s.endSession x).params = s.params ∧
      (s.endSession x).masks = s.masks ∧
      (s.endSession x).slot = s.slot ∧
      (s.endSession x).round = s.round ∧
      (s.endSession x).inFlight = s.inFlight ∧
      (s.endSession x).ltx = s.ltx ∧
      (s.endSession x).miso = s.miso ∧
      (s.endSession x).pending = s.pending ∧
      (∀ j, (s.endSession x).typist j = s.typist j) ∧
      (∀ j, (s.endSession x).drop j = s.drop j) ∧
      (∀ j, (s.endSession x).clearance j = s.clearance j) := by
  unfold State.endSession
  try dsimp only
  (repeat' split) <;> simp

@[simp] theorem State.walk_frame (s : State) (ds : List DropIx) :
      (s.walk ds).officeTime = s.officeTime ∧
      (s.walk ds).takes = s.takes ∧
      (s.walk ds).sessions = s.sessions ∧
      (s.walk ds).consoles = s.consoles ∧
      (s.walk ds).typists = s.typists ∧
      (s.walk ds).clearances = s.clearances ∧
      (s.walk ds).clearanceLock = s.clearanceLock ∧
      (s.walk ds).auditFailure = s.auditFailure ∧
      (s.walk ds).auditCountdown = s.auditCountdown ∧
      (s.walk ds).lastAuditSum = s.lastAuditSum ∧
      (s.walk ds).queue = s.queue ∧
      (s.walk ds).serialCounter = s.serialCounter ∧
      (s.walk ds).params = s.params ∧
      (s.walk ds).events = s.events ∧
      (s.walk ds).masks = s.masks ∧
      (s.walk ds).slot = s.slot ∧
      (s.walk ds).inFlight = s.inFlight ∧
      (s.walk ds).ltx = s.ltx ∧
      (s.walk ds).miso = s.miso ∧
      (s.walk ds).passDue = s.passDue ∧
      (s.walk ds).pending = s.pending ∧
      (∀ j, (s.walk ds).take j = s.take j) ∧
      (∀ j, (s.walk ds).session j = s.session j) ∧
      (∀ j, (s.walk ds).console j = s.console j) ∧
      (∀ j, (s.walk ds).typist j = s.typist j) ∧
      (∀ j, (s.walk ds).clearance j = s.clearance j) := by
  induction ds generalizing s with
  | nil => simp [State.walk]
  | cons e es ih =>
    unfold State.walk
    (try split) <;> simp [ih]

@[simp] theorem State.startRound_frame (s : State) :
      (s.startRound).officeTime = s.officeTime ∧
      (s.startRound).takes = s.takes ∧
      (s.startRound).sessions = s.sessions ∧
      (s.startRound).consoles = s.consoles ∧
      (s.startRound).typists = s.typists ∧
      (s.startRound).clearances = s.clearances ∧
      (s.startRound).clearanceLock = s.clearanceLock ∧
      (s.startRound).auditFailure = s.auditFailure ∧
      (s.startRound).auditCountdown = s.auditCountdown ∧
      (s.startRound).lastAuditSum = s.lastAuditSum ∧
      (s.startRound).queue = s.queue ∧
      (s.startRound).serialCounter = s.serialCounter ∧
      (s.startRound).params = s.params ∧
      (s.startRound).events = s.events ∧
      (s.startRound).masks = s.masks ∧
      (s.startRound).slot = s.slot ∧
      (s.startRound).inFlight = s.inFlight ∧
      (s.startRound).ltx = s.ltx ∧
      (s.startRound).miso = s.miso ∧
      (s.startRound).passDue = s.passDue ∧
      (s.startRound).pending = s.pending ∧
      (∀ j, (s.startRound).take j = s.take j) ∧
      (∀ j, (s.startRound).session j = s.session j) ∧
      (∀ j, (s.startRound).console j = s.console j) ∧
      (∀ j, (s.startRound).typist j = s.typist j) ∧
      (∀ j, (s.startRound).clearance j = s.clearance j) := by
  unfold State.startRound
  try dsimp only
  simp

@[simp] theorem State.advanceRound_frame (s : State) :
      (s.advanceRound).officeTime = s.officeTime ∧
      (s.advanceRound).takes = s.takes ∧
      (s.advanceRound).sessions = s.sessions ∧
      (s.advanceRound).consoles = s.consoles ∧
      (s.advanceRound).typists = s.typists ∧
      (s.advanceRound).clearances = s.clearances ∧
      (s.advanceRound).clearanceLock = s.clearanceLock ∧
      (s.advanceRound).auditFailure = s.auditFailure ∧
      (s.advanceRound).auditCountdown = s.auditCountdown ∧
      (s.advanceRound).lastAuditSum = s.lastAuditSum ∧
      (s.advanceRound).queue = s.queue ∧
      (s.advanceRound).serialCounter = s.serialCounter ∧
      (s.advanceRound).params = s.params ∧
      (s.advanceRound).events = s.events ∧
      (s.advanceRound).masks = s.masks ∧
      (s.advanceRound).slot = s.slot ∧
      (s.advanceRound).inFlight = s.inFlight ∧
      (s.advanceRound).ltx = s.ltx ∧
      (s.advanceRound).miso = s.miso ∧
      (s.advanceRound).passDue = s.passDue ∧
      (s.advanceRound).pending = s.pending ∧
      (∀ j, (s.advanceRound).take j = s.take j) ∧
      (∀ j, (s.advanceRound).session j = s.session j) ∧
      (∀ j, (s.advanceRound).console j = s.console j) ∧
      (∀ j, (s.advanceRound).typist j = s.typist j) ∧
      (∀ j, (s.advanceRound).clearance j = s.clearance j) := by
  unfold State.advanceRound
  try dsimp only
  (repeat' split) <;> simp

@[simp] theorem State.pollRound_frame (s : State) :
      (s.pollRound).officeTime = s.officeTime ∧
      (s.pollRound).takes = s.takes ∧
      (s.pollRound).sessions = s.sessions ∧
      (s.pollRound).consoles = s.consoles ∧
      (s.pollRound).typists = s.typists ∧
      (s.pollRound).clearances = s.clearances ∧
      (s.pollRound).clearanceLock = s.clearanceLock ∧
      (s.pollRound).auditFailure = s.auditFailure ∧
      (s.pollRound).auditCountdown = s.auditCountdown ∧
      (s.pollRound).lastAuditSum = s.lastAuditSum ∧
      (s.pollRound).queue = s.queue ∧
      (s.pollRound).serialCounter = s.serialCounter ∧
      (s.pollRound).params = s.params ∧
      (s.pollRound).events = s.events ∧
      (s.pollRound).masks = s.masks ∧
      (s.pollRound).slot = s.slot ∧
      (s.pollRound).inFlight = s.inFlight ∧
      (s.pollRound).ltx = s.ltx ∧
      (s.pollRound).miso = s.miso ∧
      (s.pollRound).passDue = s.passDue ∧
      (s.pollRound).pending = s.pending ∧
      (∀ j, (s.pollRound).take j = s.take j) ∧
      (∀ j, (s.pollRound).session j = s.session j) ∧
      (∀ j, (s.pollRound).console j = s.console j) ∧
      (∀ j, (s.pollRound).typist j = s.typist j) ∧
      (∀ j, (s.pollRound).clearance j = s.clearance j) := by
  unfold State.pollRound
  try dsimp only
  (repeat' split) <;> simp

@[simp] theorem State.sendHead_frame (s : State) (d : DropIx) :
      (s.sendHead d).officeTime = s.officeTime ∧
      (s.sendHead d).takes = s.takes ∧
      (s.sendHead d).sessions = s.sessions ∧
      (s.sendHead d).consoles = s.consoles ∧
      (s.sendHead d).typists = s.typists ∧
      (s.sendHead d).clearances = s.clearances ∧
      (s.sendHead d).clearanceLock = s.clearanceLock ∧
      (s.sendHead d).auditFailure = s.auditFailure ∧
      (s.sendHead d).auditCountdown = s.auditCountdown ∧
      (s.sendHead d).lastAuditSum = s.lastAuditSum ∧
      (s.sendHead d).queue = s.queue ∧
      (s.sendHead d).serialCounter = s.serialCounter ∧
      (s.sendHead d).params = s.params ∧
      (s.sendHead d).events = s.events ∧
      (s.sendHead d).masks = s.masks ∧
      (s.sendHead d).slot = s.slot ∧
      (s.sendHead d).round = s.round ∧
      (s.sendHead d).inFlight = s.inFlight ∧
      (s.sendHead d).ltx = s.ltx ∧
      (s.sendHead d).miso = s.miso ∧
      (s.sendHead d).pending = s.pending ∧
      (∀ j, (s.sendHead d).take j = s.take j) ∧
      (∀ j, (s.sendHead d).session j = s.session j) ∧
      (∀ j, (s.sendHead d).console j = s.console j) ∧
      (∀ j, (s.sendHead d).typist j = s.typist j) ∧
      (∀ j, (s.sendHead d).clearance j = s.clearance j) := by
  unfold State.sendHead
  try dsimp only
  (repeat' split) <;> simp

@[simp] theorem State.poll_frame (s : State) (d : DropIx) :
      (s.poll d).officeTime = s.officeTime ∧
      (s.poll d).takes = s.takes ∧
      (s.poll d).sessions = s.sessions ∧
      (s.poll d).consoles = s.consoles ∧
      (s.poll d).typists = s.typists ∧
      (s.poll d).clearances = s.clearances ∧
      (s.poll d).clearanceLock = s.clearanceLock ∧
      (s.poll d).auditFailure = s.auditFailure ∧
      (s.poll d).auditCountdown = s.auditCountdown ∧
      (s.poll d).lastAuditSum = s.lastAuditSum ∧
      (s.poll d).queue = s.queue ∧
      (s.poll d).serialCounter = s.serialCounter ∧
      (s.poll d).params = s.params ∧
      (s.poll d).events = s.events ∧
      (s.poll d).masks = s.masks ∧
      (s.poll d).slot = s.slot ∧
      (s.poll d).miso = s.miso ∧
      (s.poll d).pending = s.pending ∧
      (∀ j, (s.poll d).take j = s.take j) ∧
      (∀ j, (s.poll d).session j = s.session j) ∧
      (∀ j, (s.poll d).console j = s.console j) ∧
      (∀ j, (s.poll d).typist j = s.typist j) ∧
      (∀ j, (s.poll d).clearance j = s.clearance j) := by
  unfold State.poll
  try dsimp only
  simp [State.take, State.session, State.console, State.typist, State.clearance]

@[simp] theorem State.pollTransaction_frame (s : State) :
      (s.pollTransaction).officeTime = s.officeTime ∧
      (s.pollTransaction).takes = s.takes ∧
      (s.pollTransaction).sessions = s.sessions ∧
      (s.pollTransaction).consoles = s.consoles ∧
      (s.pollTransaction).typists = s.typists ∧
      (s.pollTransaction).clearances = s.clearances ∧
      (s.pollTransaction).clearanceLock = s.clearanceLock ∧
      (s.pollTransaction).auditFailure = s.auditFailure ∧
      (s.pollTransaction).auditCountdown = s.auditCountdown ∧
      (s.pollTransaction).lastAuditSum = s.lastAuditSum ∧
      (s.pollTransaction).queue = s.queue ∧
      (s.pollTransaction).serialCounter = s.serialCounter ∧
      (s.pollTransaction).params = s.params ∧
      (s.pollTransaction).events = s.events ∧
      (s.pollTransaction).masks = s.masks ∧
      (s.pollTransaction).slot = s.slot ∧
      (s.pollTransaction).miso = s.miso ∧
      (s.pollTransaction).pending = s.pending ∧
      (∀ j, (s.pollTransaction).take j = s.take j) ∧
      (∀ j, (s.pollTransaction).session j = s.session j) ∧
      (∀ j, (s.pollTransaction).console j = s.console j) ∧
      (∀ j, (s.pollTransaction).typist j = s.typist j) ∧
      (∀ j, (s.pollTransaction).clearance j = s.clearance j) := by
  unfold State.pollTransaction
  try dsimp only
  (repeat' split) <;> simp

@[simp] theorem State.consoleLeaves_frame (s : State) (c : ConsoleIx) :
      (s.consoleLeaves c).officeTime = s.officeTime ∧
      (s.consoleLeaves c).typists = s.typists ∧
      (s.consoleLeaves c).drops = s.drops ∧
      (s.consoleLeaves c).clearances = s.clearances ∧
      (s.consoleLeaves c).clearanceLock = s.clearanceLock ∧
      (s.consoleLeaves c).auditFailure = s.auditFailure ∧
      (s.consoleLeaves c).auditCountdown = s.auditCountdown ∧
      (s.consoleLeaves c).lastAuditSum = s.lastAuditSum ∧
      (s.consoleLeaves c).params = s.params ∧
      (s.consoleLeaves c).masks = s.masks ∧
      (s.consoleLeaves c).slot = s.slot ∧
      (s.consoleLeaves c).round = s.round ∧
      (s.consoleLeaves c).inFlight = s.inFlight ∧
      (s.consoleLeaves c).ltx = s.ltx ∧
      (s.consoleLeaves c).miso = s.miso ∧
      (s.consoleLeaves c).pending = s.pending ∧
      (∀ j, (s.consoleLeaves c).typist j = s.typist j) ∧
      (∀ j, (s.consoleLeaves c).drop j = s.drop j) ∧
      (∀ j, (s.consoleLeaves c).clearance j = s.clearance j) := by
  unfold State.consoleLeaves
  try dsimp only
  (repeat' split) <;> simp

@[simp] theorem State.typistLeaves_frame (s : State) (t : TypistIx) :
      (s.typistLeaves t).officeTime = s.officeTime ∧
      (s.typistLeaves t).sessions = s.sessions ∧
      (s.typistLeaves t).consoles = s.consoles ∧
      (s.typistLeaves t).clearances = s.clearances ∧
      (s.typistLeaves t).clearanceLock = s.clearanceLock ∧
      (s.typistLeaves t).auditFailure = s.auditFailure ∧
      (s.typistLeaves t).auditCountdown = s.auditCountdown ∧
      (s.typistLeaves t).lastAuditSum = s.lastAuditSum ∧
      (s.typistLeaves t).params = s.params ∧
      (s.typistLeaves t).masks = s.masks ∧
      (s.typistLeaves t).slot = s.slot ∧
      (s.typistLeaves t).round = s.round ∧
      (s.typistLeaves t).inFlight = s.inFlight ∧
      (s.typistLeaves t).ltx = s.ltx ∧
      (s.typistLeaves t).miso = s.miso ∧
      (s.typistLeaves t).pending = s.pending ∧
      (∀ j, (s.typistLeaves t).session j = s.session j) ∧
      (∀ j, (s.typistLeaves t).console j = s.console j) ∧
      (∀ j, (s.typistLeaves t).clearance j = s.clearance j) := by
  unfold State.typistLeaves
  try dsimp only
  (repeat' split) <;> simp

@[simp] theorem State.goAbsent_frame (s : State) (d : DropIx) :
      (s.goAbsent d).officeTime = s.officeTime ∧
      (s.goAbsent d).clearances = s.clearances ∧
      (s.goAbsent d).clearanceLock = s.clearanceLock ∧
      (s.goAbsent d).auditFailure = s.auditFailure ∧
      (s.goAbsent d).auditCountdown = s.auditCountdown ∧
      (s.goAbsent d).lastAuditSum = s.lastAuditSum ∧
      (s.goAbsent d).params = s.params ∧
      (s.goAbsent d).masks = s.masks ∧
      (s.goAbsent d).slot = s.slot ∧
      (s.goAbsent d).round = s.round ∧
      (s.goAbsent d).inFlight = s.inFlight ∧
      (s.goAbsent d).ltx = s.ltx ∧
      (s.goAbsent d).miso = s.miso ∧
      (s.goAbsent d).pending = s.pending ∧
      (∀ j, (s.goAbsent d).clearance j = s.clearance j) := by
  unfold State.goAbsent
  try dsimp only
  (repeat' split) <;> simp

@[simp] theorem State.miss_frame (s : State) (d : DropIx) :
      (s.miss d).officeTime = s.officeTime ∧
      (s.miss d).clearances = s.clearances ∧
      (s.miss d).clearanceLock = s.clearanceLock ∧
      (s.miss d).auditFailure = s.auditFailure ∧
      (s.miss d).auditCountdown = s.auditCountdown ∧
      (s.miss d).lastAuditSum = s.lastAuditSum ∧
      (s.miss d).params = s.params ∧
      (s.miss d).masks = s.masks ∧
      (s.miss d).slot = s.slot ∧
      (s.miss d).round = s.round ∧
      (s.miss d).inFlight = s.inFlight ∧
      (s.miss d).ltx = s.ltx ∧
      (s.miss d).miso = s.miso ∧
      (s.miss d).pending = s.pending ∧
      (∀ j, (s.miss d).clearance j = s.clearance j) := by
  unfold State.miss
  try dsimp only
  (repeat' split) <;> simp

@[simp] theorem State.endTransaction_frame (s : State) :
      (s.endTransaction).officeTime = s.officeTime ∧
      (s.endTransaction).takes = s.takes ∧
      (s.endTransaction).sessions = s.sessions ∧
      (s.endTransaction).consoles = s.consoles ∧
      (s.endTransaction).typists = s.typists ∧
      (s.endTransaction).clearances = s.clearances ∧
      (s.endTransaction).clearanceLock = s.clearanceLock ∧
      (s.endTransaction).auditFailure = s.auditFailure ∧
      (s.endTransaction).auditCountdown = s.auditCountdown ∧
      (s.endTransaction).lastAuditSum = s.lastAuditSum ∧
      (s.endTransaction).queue = s.queue ∧
      (s.endTransaction).serialCounter = s.serialCounter ∧
      (s.endTransaction).params = s.params ∧
      (s.endTransaction).events = s.events ∧
      (s.endTransaction).masks = s.masks ∧
      (s.endTransaction).slot = s.slot ∧
      (s.endTransaction).ltx = s.ltx ∧
      (s.endTransaction).miso = s.miso ∧
      (s.endTransaction).passDue = s.passDue ∧
      (s.endTransaction).pending = s.pending ∧
      (∀ j, (s.endTransaction).take j = s.take j) ∧
      (∀ j, (s.endTransaction).session j = s.session j) ∧
      (∀ j, (s.endTransaction).console j = s.console j) ∧
      (∀ j, (s.endTransaction).typist j = s.typist j) ∧
      (∀ j, (s.endTransaction).clearance j = s.clearance j) := by
  unfold State.endTransaction
  try dsimp only
  simp [State.take, State.session, State.console, State.typist, State.clearance]

@[simp] theorem State.replyMiss_frame (s : State) :
      (s.replyMiss).officeTime = s.officeTime ∧
      (s.replyMiss).clearances = s.clearances ∧
      (s.replyMiss).clearanceLock = s.clearanceLock ∧
      (s.replyMiss).auditFailure = s.auditFailure ∧
      (s.replyMiss).auditCountdown = s.auditCountdown ∧
      (s.replyMiss).lastAuditSum = s.lastAuditSum ∧
      (s.replyMiss).params = s.params ∧
      (s.replyMiss).masks = s.masks ∧
      (s.replyMiss).slot = s.slot ∧
      (s.replyMiss).ltx = s.ltx ∧
      (s.replyMiss).miso = s.miso ∧
      (s.replyMiss).pending = s.pending ∧
      (∀ j, (s.replyMiss).clearance j = s.clearance j) := by
  unfold State.replyMiss
  try dsimp only
  (repeat' split) <;> simp

@[simp] theorem State.ownerTold_frame (s : State) (d : DropIx) :
      (s.ownerTold d).officeTime = s.officeTime ∧
      (s.ownerTold d).takes = s.takes ∧
      (s.ownerTold d).sessions = s.sessions ∧
      (s.ownerTold d).clearances = s.clearances ∧
      (s.ownerTold d).clearanceLock = s.clearanceLock ∧
      (s.ownerTold d).auditFailure = s.auditFailure ∧
      (s.ownerTold d).auditCountdown = s.auditCountdown ∧
      (s.ownerTold d).lastAuditSum = s.lastAuditSum ∧
      (s.ownerTold d).queue = s.queue ∧
      (s.ownerTold d).serialCounter = s.serialCounter ∧
      (s.ownerTold d).params = s.params ∧
      (s.ownerTold d).events = s.events ∧
      (s.ownerTold d).masks = s.masks ∧
      (s.ownerTold d).slot = s.slot ∧
      (s.ownerTold d).round = s.round ∧
      (s.ownerTold d).inFlight = s.inFlight ∧
      (s.ownerTold d).ltx = s.ltx ∧
      (s.ownerTold d).miso = s.miso ∧
      (s.ownerTold d).pending = s.pending ∧
      (∀ j, (s.ownerTold d).take j = s.take j) ∧
      (∀ j, (s.ownerTold d).session j = s.session j) ∧
      (∀ j, (s.ownerTold d).clearance j = s.clearance j) := by
  unfold State.ownerTold
  try dsimp only
  (repeat' split) <;> simp

@[simp] theorem State.presence_frame (s : State) (d : DropIx) :
      (s.presence d).officeTime = s.officeTime ∧
      (s.presence d).takes = s.takes ∧
      (s.presence d).sessions = s.sessions ∧
      (s.presence d).clearances = s.clearances ∧
      (s.presence d).clearanceLock = s.clearanceLock ∧
      (s.presence d).auditFailure = s.auditFailure ∧
      (s.presence d).auditCountdown = s.auditCountdown ∧
      (s.presence d).lastAuditSum = s.lastAuditSum ∧
      (s.presence d).queue = s.queue ∧
      (s.presence d).serialCounter = s.serialCounter ∧
      (s.presence d).params = s.params ∧
      (s.presence d).events = s.events ∧
      (s.presence d).masks = s.masks ∧
      (s.presence d).slot = s.slot ∧
      (s.presence d).round = s.round ∧
      (s.presence d).inFlight = s.inFlight ∧
      (s.presence d).ltx = s.ltx ∧
      (s.presence d).miso = s.miso ∧
      (s.presence d).pending = s.pending ∧
      (∀ j, (s.presence d).take j = s.take j) ∧
      (∀ j, (s.presence d).session j = s.session j) ∧
      (∀ j, (s.presence d).clearance j = s.clearance j) := by
  unfold State.presence
  try dsimp only
  (repeat' split) <;> simp

@[simp] theorem State.fallingCode_frame (s : State) (c : ConsoleIx) (n : Nat) :
      (s.fallingCode c n).officeTime = s.officeTime ∧
      (s.fallingCode c n).sessions = s.sessions ∧
      (s.fallingCode c n).typists = s.typists ∧
      (s.fallingCode c n).drops = s.drops ∧
      (s.fallingCode c n).clearances = s.clearances ∧
      (s.fallingCode c n).clearanceLock = s.clearanceLock ∧
      (s.fallingCode c n).auditFailure = s.auditFailure ∧
      (s.fallingCode c n).auditCountdown = s.auditCountdown ∧
      (s.fallingCode c n).lastAuditSum = s.lastAuditSum ∧
      (s.fallingCode c n).queue = s.queue ∧
      (s.fallingCode c n).serialCounter = s.serialCounter ∧
      (s.fallingCode c n).params = s.params ∧
      (s.fallingCode c n).masks = s.masks ∧
      (s.fallingCode c n).slot = s.slot ∧
      (s.fallingCode c n).round = s.round ∧
      (s.fallingCode c n).inFlight = s.inFlight ∧
      (s.fallingCode c n).ltx = s.ltx ∧
      (s.fallingCode c n).miso = s.miso ∧
      (s.fallingCode c n).passDue = s.passDue ∧
      (s.fallingCode c n).pending = s.pending ∧
      (∀ j, (s.fallingCode c n).session j = s.session j) ∧
      (∀ j, (s.fallingCode c n).typist j = s.typist j) ∧
      (∀ j, (s.fallingCode c n).drop j = s.drop j) ∧
      (∀ j, (s.fallingCode c n).clearance j = s.clearance j) := by
  unfold State.fallingCode
  try dsimp only
  (repeat' split) <;> simp

@[simp] theorem State.lengthen_frame (s : State) (i : TakeIx) (n : Nat) :
      (s.lengthen i n).officeTime = s.officeTime ∧
      (s.lengthen i n).sessions = s.sessions ∧
      (s.lengthen i n).consoles = s.consoles ∧
      (s.lengthen i n).typists = s.typists ∧
      (s.lengthen i n).drops = s.drops ∧
      (s.lengthen i n).clearances = s.clearances ∧
      (s.lengthen i n).clearanceLock = s.clearanceLock ∧
      (s.lengthen i n).auditFailure = s.auditFailure ∧
      (s.lengthen i n).auditCountdown = s.auditCountdown ∧
      (s.lengthen i n).lastAuditSum = s.lastAuditSum ∧
      (s.lengthen i n).queue = s.queue ∧
      (s.lengthen i n).serialCounter = s.serialCounter ∧
      (s.lengthen i n).params = s.params ∧
      (s.lengthen i n).masks = s.masks ∧
      (s.lengthen i n).slot = s.slot ∧
      (s.lengthen i n).round = s.round ∧
      (s.lengthen i n).inFlight = s.inFlight ∧
      (s.lengthen i n).ltx = s.ltx ∧
      (s.lengthen i n).miso = s.miso ∧
      (s.lengthen i n).passDue = s.passDue ∧
      (s.lengthen i n).pending = s.pending ∧
      (∀ j, (s.lengthen i n).session j = s.session j) ∧
      (∀ j, (s.lengthen i n).console j = s.console j) ∧
      (∀ j, (s.lengthen i n).typist j = s.typist j) ∧
      (∀ j, (s.lengthen i n).drop j = s.drop j) ∧
      (∀ j, (s.lengthen i n).clearance j = s.clearance j) := by
  unfold State.lengthen
  try dsimp only
  (repeat' split) <;> simp

@[simp] theorem State.takeTimeCode_frame (s : State) (c : ConsoleIx) (r : Reply) :
      (s.takeTimeCode c r).officeTime = s.officeTime ∧
      (s.takeTimeCode c r).sessions = s.sessions ∧
      (s.takeTimeCode c r).typists = s.typists ∧
      (s.takeTimeCode c r).drops = s.drops ∧
      (s.takeTimeCode c r).clearances = s.clearances ∧
      (s.takeTimeCode c r).clearanceLock = s.clearanceLock ∧
      (s.takeTimeCode c r).auditFailure = s.auditFailure ∧
      (s.takeTimeCode c r).auditCountdown = s.auditCountdown ∧
      (s.takeTimeCode c r).lastAuditSum = s.lastAuditSum ∧
      (s.takeTimeCode c r).queue = s.queue ∧
      (s.takeTimeCode c r).serialCounter = s.serialCounter ∧
      (s.takeTimeCode c r).params = s.params ∧
      (s.takeTimeCode c r).masks = s.masks ∧
      (s.takeTimeCode c r).slot = s.slot ∧
      (s.takeTimeCode c r).round = s.round ∧
      (s.takeTimeCode c r).inFlight = s.inFlight ∧
      (s.takeTimeCode c r).ltx = s.ltx ∧
      (s.takeTimeCode c r).miso = s.miso ∧
      (s.takeTimeCode c r).passDue = s.passDue ∧
      (s.takeTimeCode c r).pending = s.pending ∧
      (∀ j, (s.takeTimeCode c r).session j = s.session j) ∧
      (∀ j, (s.takeTimeCode c r).typist j = s.typist j) ∧
      (∀ j, (s.takeTimeCode c r).drop j = s.drop j) ∧
      (∀ j, (s.takeTimeCode c r).clearance j = s.clearance j) := by
  unfold State.takeTimeCode
  try dsimp only
  (repeat' split) <;> simp

@[simp] theorem State.takePosition_frame (s : State) (t : TypistIx) (r : Reply) :
      (s.takePosition t r).officeTime = s.officeTime ∧
      (s.takePosition t r).takes = s.takes ∧
      (s.takePosition t r).sessions = s.sessions ∧
      (s.takePosition t r).consoles = s.consoles ∧
      (s.takePosition t r).clearances = s.clearances ∧
      (s.takePosition t r).clearanceLock = s.clearanceLock ∧
      (s.takePosition t r).auditFailure = s.auditFailure ∧
      (s.takePosition t r).auditCountdown = s.auditCountdown ∧
      (s.takePosition t r).lastAuditSum = s.lastAuditSum ∧
      (s.takePosition t r).queue = s.queue ∧
      (s.takePosition t r).serialCounter = s.serialCounter ∧
      (s.takePosition t r).params = s.params ∧
      (s.takePosition t r).events = s.events ∧
      (s.takePosition t r).masks = s.masks ∧
      (s.takePosition t r).slot = s.slot ∧
      (s.takePosition t r).round = s.round ∧
      (s.takePosition t r).inFlight = s.inFlight ∧
      (s.takePosition t r).ltx = s.ltx ∧
      (s.takePosition t r).miso = s.miso ∧
      (s.takePosition t r).passDue = s.passDue ∧
      (s.takePosition t r).pending = s.pending ∧
      (∀ j, (s.takePosition t r).take j = s.take j) ∧
      (∀ j, (s.takePosition t r).session j = s.session j) ∧
      (∀ j, (s.takePosition t r).console j = s.console j) ∧
      (∀ j, (s.takePosition t r).clearance j = s.clearance j) := by
  unfold State.takePosition
  try dsimp only
  (repeat' split) <;> simp

@[simp] theorem State.statusTaken_frame (s : State) (d : DropIx) (r : Reply) :
      (s.statusTaken d r).officeTime = s.officeTime ∧
      (s.statusTaken d r).sessions = s.sessions ∧
      (s.statusTaken d r).clearances = s.clearances ∧
      (s.statusTaken d r).clearanceLock = s.clearanceLock ∧
      (s.statusTaken d r).auditFailure = s.auditFailure ∧
      (s.statusTaken d r).auditCountdown = s.auditCountdown ∧
      (s.statusTaken d r).lastAuditSum = s.lastAuditSum ∧
      (s.statusTaken d r).queue = s.queue ∧
      (s.statusTaken d r).serialCounter = s.serialCounter ∧
      (s.statusTaken d r).params = s.params ∧
      (s.statusTaken d r).masks = s.masks ∧
      (s.statusTaken d r).slot = s.slot ∧
      (s.statusTaken d r).round = s.round ∧
      (s.statusTaken d r).inFlight = s.inFlight ∧
      (s.statusTaken d r).ltx = s.ltx ∧
      (s.statusTaken d r).miso = s.miso ∧
      (s.statusTaken d r).passDue = s.passDue ∧
      (s.statusTaken d r).pending = s.pending ∧
      (∀ j, (s.statusTaken d r).session j = s.session j) ∧
      (∀ j, (s.statusTaken d r).clearance j = s.clearance j) := by
  unfold State.statusTaken
  try dsimp only
  (repeat' split) <;> simp

@[simp] theorem State.enableDrop_frame (s : State) (d : DropIx) :
      (s.enableDrop d).officeTime = s.officeTime ∧
      (s.enableDrop d).takes = s.takes ∧
      (s.enableDrop d).sessions = s.sessions ∧
      (s.enableDrop d).consoles = s.consoles ∧
      (s.enableDrop d).typists = s.typists ∧
      (s.enableDrop d).clearances = s.clearances ∧
      (s.enableDrop d).clearanceLock = s.clearanceLock ∧
      (s.enableDrop d).auditFailure = s.auditFailure ∧
      (s.enableDrop d).auditCountdown = s.auditCountdown ∧
      (s.enableDrop d).lastAuditSum = s.lastAuditSum ∧
      (s.enableDrop d).queue = s.queue ∧
      (s.enableDrop d).serialCounter = s.serialCounter ∧
      (s.enableDrop d).params = s.params ∧
      (s.enableDrop d).events = s.events ∧
      (s.enableDrop d).masks = s.masks ∧
      (s.enableDrop d).slot = s.slot ∧
      (s.enableDrop d).inFlight = s.inFlight ∧
      (s.enableDrop d).ltx = s.ltx ∧
      (s.enableDrop d).miso = s.miso ∧
      (s.enableDrop d).passDue = s.passDue ∧
      (s.enableDrop d).pending = s.pending ∧
      (∀ j, (s.enableDrop d).take j = s.take j) ∧
      (∀ j, (s.enableDrop d).session j = s.session j) ∧
      (∀ j, (s.enableDrop d).console j = s.console j) ∧
      (∀ j, (s.enableDrop d).typist j = s.typist j) ∧
      (∀ j, (s.enableDrop d).clearance j = s.clearance j) := by
  unfold State.enableDrop
  try dsimp only
  (repeat' split) <;> simp

@[simp] theorem State.consoleDisabled_frame (s : State) (c : ConsoleIx) :
      (s.consoleDisabled c).officeTime = s.officeTime ∧
      (s.consoleDisabled c).typists = s.typists ∧
      (s.consoleDisabled c).drops = s.drops ∧
      (s.consoleDisabled c).clearances = s.clearances ∧
      (s.consoleDisabled c).clearanceLock = s.clearanceLock ∧
      (s.consoleDisabled c).auditFailure = s.auditFailure ∧
      (s.consoleDisabled c).auditCountdown = s.auditCountdown ∧
      (s.consoleDisabled c).lastAuditSum = s.lastAuditSum ∧
      (s.consoleDisabled c).params = s.params ∧
      (s.consoleDisabled c).masks = s.masks ∧
      (s.consoleDisabled c).slot = s.slot ∧
      (s.consoleDisabled c).round = s.round ∧
      (s.consoleDisabled c).inFlight = s.inFlight ∧
      (s.consoleDisabled c).ltx = s.ltx ∧
      (s.consoleDisabled c).miso = s.miso ∧
      (s.consoleDisabled c).pending = s.pending ∧
      (∀ j, (s.consoleDisabled c).typist j = s.typist j) ∧
      (∀ j, (s.consoleDisabled c).drop j = s.drop j) ∧
      (∀ j, (s.consoleDisabled c).clearance j = s.clearance j) := by
  unfold State.consoleDisabled
  try dsimp only
  simp

@[simp] theorem State.typistDisabled_frame (s : State) (t : TypistIx) :
      (s.typistDisabled t).officeTime = s.officeTime ∧
      (s.typistDisabled t).sessions = s.sessions ∧
      (s.typistDisabled t).consoles = s.consoles ∧
      (s.typistDisabled t).drops = s.drops ∧
      (s.typistDisabled t).clearances = s.clearances ∧
      (s.typistDisabled t).clearanceLock = s.clearanceLock ∧
      (s.typistDisabled t).auditFailure = s.auditFailure ∧
      (s.typistDisabled t).auditCountdown = s.auditCountdown ∧
      (s.typistDisabled t).lastAuditSum = s.lastAuditSum ∧
      (s.typistDisabled t).params = s.params ∧
      (s.typistDisabled t).masks = s.masks ∧
      (s.typistDisabled t).slot = s.slot ∧
      (s.typistDisabled t).round = s.round ∧
      (s.typistDisabled t).inFlight = s.inFlight ∧
      (s.typistDisabled t).ltx = s.ltx ∧
      (s.typistDisabled t).miso = s.miso ∧
      (s.typistDisabled t).pending = s.pending ∧
      (∀ j, (s.typistDisabled t).session j = s.session j) ∧
      (∀ j, (s.typistDisabled t).console j = s.console j) ∧
      (∀ j, (s.typistDisabled t).drop j = s.drop j) ∧
      (∀ j, (s.typistDisabled t).clearance j = s.clearance j) := by
  unfold State.typistDisabled
  try dsimp only
  (repeat' split) <;> simp

@[simp] theorem State.cancelPoll_frame (s : State) (d : DropIx) :
      (s.cancelPoll d).officeTime = s.officeTime ∧
      (s.cancelPoll d).takes = s.takes ∧
      (s.cancelPoll d).sessions = s.sessions ∧
      (s.cancelPoll d).consoles = s.consoles ∧
      (s.cancelPoll d).typists = s.typists ∧
      (s.cancelPoll d).clearances = s.clearances ∧
      (s.cancelPoll d).clearanceLock = s.clearanceLock ∧
      (s.cancelPoll d).auditFailure = s.auditFailure ∧
      (s.cancelPoll d).auditCountdown = s.auditCountdown ∧
      (s.cancelPoll d).lastAuditSum = s.lastAuditSum ∧
      (s.cancelPoll d).queue = s.queue ∧
      (s.cancelPoll d).serialCounter = s.serialCounter ∧
      (s.cancelPoll d).params = s.params ∧
      (s.cancelPoll d).events = s.events ∧
      (s.cancelPoll d).masks = s.masks ∧
      (s.cancelPoll d).slot = s.slot ∧
      (s.cancelPoll d).ltx = s.ltx ∧
      (s.cancelPoll d).miso = s.miso ∧
      (s.cancelPoll d).passDue = s.passDue ∧
      (s.cancelPoll d).pending = s.pending ∧
      (∀ j, (s.cancelPoll d).take j = s.take j) ∧
      (∀ j, (s.cancelPoll d).session j = s.session j) ∧
      (∀ j, (s.cancelPoll d).console j = s.console j) ∧
      (∀ j, (s.cancelPoll d).typist j = s.typist j) ∧
      (∀ j, (s.cancelPoll d).clearance j = s.clearance j) := by
  unfold State.cancelPoll
  try dsimp only
  (repeat' split) <;> simp

@[simp] theorem State.endIfIdle_frame (s : State) :
      (s.endIfIdle).officeTime = s.officeTime ∧
      (s.endIfIdle).takes = s.takes ∧
      (s.endIfIdle).sessions = s.sessions ∧
      (s.endIfIdle).consoles = s.consoles ∧
      (s.endIfIdle).typists = s.typists ∧
      (s.endIfIdle).drops = s.drops ∧
      (s.endIfIdle).clearances = s.clearances ∧
      (s.endIfIdle).clearanceLock = s.clearanceLock ∧
      (s.endIfIdle).auditFailure = s.auditFailure ∧
      (s.endIfIdle).auditCountdown = s.auditCountdown ∧
      (s.endIfIdle).lastAuditSum = s.lastAuditSum ∧
      (s.endIfIdle).queue = s.queue ∧
      (s.endIfIdle).serialCounter = s.serialCounter ∧
      (s.endIfIdle).params = s.params ∧
      (s.endIfIdle).events = s.events ∧
      (s.endIfIdle).masks = s.masks ∧
      (s.endIfIdle).slot = s.slot ∧
      (s.endIfIdle).inFlight = s.inFlight ∧
      (s.endIfIdle).ltx = s.ltx ∧
      (s.endIfIdle).miso = s.miso ∧
      (s.endIfIdle).passDue = s.passDue ∧
      (s.endIfIdle).pending = s.pending ∧
      (∀ j, (s.endIfIdle).take j = s.take j) ∧
      (∀ j, (s.endIfIdle).session j = s.session j) ∧
      (∀ j, (s.endIfIdle).console j = s.console j) ∧
      (∀ j, (s.endIfIdle).typist j = s.typist j) ∧
      (∀ j, (s.endIfIdle).drop j = s.drop j) ∧
      (∀ j, (s.endIfIdle).clearance j = s.clearance j) := by
  unfold State.endIfIdle
  try dsimp only
  (repeat' split) <;> simp

@[simp] theorem State.disableDrop_frame (s : State) (d : DropIx) :
      (s.disableDrop d).officeTime = s.officeTime ∧
      (s.disableDrop d).clearances = s.clearances ∧
      (s.disableDrop d).clearanceLock = s.clearanceLock ∧
      (s.disableDrop d).auditFailure = s.auditFailure ∧
      (s.disableDrop d).auditCountdown = s.auditCountdown ∧
      (s.disableDrop d).lastAuditSum = s.lastAuditSum ∧
      (s.disableDrop d).params = s.params ∧
      (s.disableDrop d).masks = s.masks ∧
      (s.disableDrop d).slot = s.slot ∧
      (s.disableDrop d).ltx = s.ltx ∧
      (s.disableDrop d).miso = s.miso ∧
      (s.disableDrop d).pending = s.pending ∧
      (∀ j, (s.disableDrop d).clearance j = s.clearance j) := by
  unfold State.disableDrop
  try dsimp only
  (repeat' split) <;> simp

@[simp] theorem openWork_frame (s : State) (c : ConsoleIx) :
      (openWork c s).2.officeTime = s.officeTime ∧
      (openWork c s).2.drops = s.drops ∧
      (openWork c s).2.clearances = s.clearances ∧
      (openWork c s).2.clearanceLock = s.clearanceLock ∧
      (openWork c s).2.auditFailure = s.auditFailure ∧
      (openWork c s).2.auditCountdown = s.auditCountdown ∧
      (openWork c s).2.lastAuditSum = s.lastAuditSum ∧
      (openWork c s).2.queue = s.queue ∧
      (openWork c s).2.serialCounter = s.serialCounter ∧
      (openWork c s).2.params = s.params ∧
      (openWork c s).2.masks = s.masks ∧
      (openWork c s).2.slot = s.slot ∧
      (openWork c s).2.round = s.round ∧
      (openWork c s).2.inFlight = s.inFlight ∧
      (openWork c s).2.ltx = s.ltx ∧
      (openWork c s).2.miso = s.miso ∧
      (openWork c s).2.passDue = s.passDue ∧
      (openWork c s).2.pending = s.pending ∧
      (∀ j, (openWork c s).2.drop j = s.drop j) ∧
      (∀ j, (openWork c s).2.clearance j = s.clearance j) := by
  unfold openWork
  try dsimp only
  (repeat' split) <;>
    first
    | (simp [refuse]; done)
    | (rename_i h; have h' := congrArg Prod.snd h; simp only at h'; simp [← h'])

@[simp] theorem closeWork_frame (s : State) (c : ConsoleIx) (n : Half) :
      (closeWork c n s).2.officeTime = s.officeTime ∧
      (closeWork c n s).2.typists = s.typists ∧
      (closeWork c n s).2.drops = s.drops ∧
      (closeWork c n s).2.clearances = s.clearances ∧
      (closeWork c n s).2.clearanceLock = s.clearanceLock ∧
      (closeWork c n s).2.auditFailure = s.auditFailure ∧
      (closeWork c n s).2.auditCountdown = s.auditCountdown ∧
      (closeWork c n s).2.lastAuditSum = s.lastAuditSum ∧
      (closeWork c n s).2.params = s.params ∧
      (closeWork c n s).2.masks = s.masks ∧
      (closeWork c n s).2.slot = s.slot ∧
      (closeWork c n s).2.round = s.round ∧
      (closeWork c n s).2.inFlight = s.inFlight ∧
      (closeWork c n s).2.ltx = s.ltx ∧
      (closeWork c n s).2.miso = s.miso ∧
      (closeWork c n s).2.pending = s.pending ∧
      (∀ j, (closeWork c n s).2.typist j = s.typist j) ∧
      (∀ j, (closeWork c n s).2.drop j = s.drop j) ∧
      (∀ j, (closeWork c n s).2.clearance j = s.clearance j) := by
  unfold closeWork
  try dsimp only
  (repeat' split) <;> simp [refuse]

@[simp] theorem rollOpens_frame (s : State) (c : ConsoleIx) (x : SessionIx) (b : Bool) (h : Option Handle) :
      (rollOpens c x b h s).2.officeTime = s.officeTime ∧
      (rollOpens c x b h s).2.drops = s.drops ∧
      (rollOpens c x b h s).2.clearances = s.clearances ∧
      (rollOpens c x b h s).2.clearanceLock = s.clearanceLock ∧
      (rollOpens c x b h s).2.auditFailure = s.auditFailure ∧
      (rollOpens c x b h s).2.auditCountdown = s.auditCountdown ∧
      (rollOpens c x b h s).2.lastAuditSum = s.lastAuditSum ∧
      (rollOpens c x b h s).2.queue = s.queue ∧
      (rollOpens c x b h s).2.serialCounter = s.serialCounter ∧
      (rollOpens c x b h s).2.params = s.params ∧
      (rollOpens c x b h s).2.masks = s.masks ∧
      (rollOpens c x b h s).2.slot = s.slot ∧
      (rollOpens c x b h s).2.round = s.round ∧
      (rollOpens c x b h s).2.inFlight = s.inFlight ∧
      (rollOpens c x b h s).2.ltx = s.ltx ∧
      (rollOpens c x b h s).2.miso = s.miso ∧
      (rollOpens c x b h s).2.passDue = s.passDue ∧
      (rollOpens c x b h s).2.pending = s.pending ∧
      (∀ j, (rollOpens c x b h s).2.drop j = s.drop j) ∧
      (∀ j, (rollOpens c x b h s).2.clearance j = s.clearance j) := by
  unfold rollOpens
  try dsimp only
  (repeat' split) <;>
    first
    | (simp; done)
    | (rename_i h; have h' := congrArg Prod.snd h; simp only at h'; simp [← h'])

@[simp] theorem rollWork_frame (s : State) (c : ConsoleIx) (n : Half) :
      (rollWork c n s).2.officeTime = s.officeTime ∧
      (rollWork c n s).2.drops = s.drops ∧
      (rollWork c n s).2.clearances = s.clearances ∧
      (rollWork c n s).2.clearanceLock = s.clearanceLock ∧
      (rollWork c n s).2.auditFailure = s.auditFailure ∧
      (rollWork c n s).2.auditCountdown = s.auditCountdown ∧
      (rollWork c n s).2.lastAuditSum = s.lastAuditSum ∧
      (rollWork c n s).2.params = s.params ∧
      (rollWork c n s).2.masks = s.masks ∧
      (rollWork c n s).2.slot = s.slot ∧
      (rollWork c n s).2.round = s.round ∧
      (rollWork c n s).2.inFlight = s.inFlight ∧
      (rollWork c n s).2.ltx = s.ltx ∧
      (rollWork c n s).2.miso = s.miso ∧
      (rollWork c n s).2.pending = s.pending ∧
      (∀ j, (rollWork c n s).2.drop j = s.drop j) ∧
      (∀ j, (rollWork c n s).2.clearance j = s.clearance j) := by
  unfold rollWork
  try dsimp only
  (repeat' split) <;> simp [refuse]

@[simp] theorem openSessionWork_frame (s : State) (n : Half) (a b c : Byte) (q : Quad) (r : Byte) :
      (openSessionWork n a b c q r s).2.officeTime = s.officeTime ∧
      (openSessionWork n a b c q r s).2.takes = s.takes ∧
      (openSessionWork n a b c q r s).2.typists = s.typists ∧
      (openSessionWork n a b c q r s).2.drops = s.drops ∧
      (openSessionWork n a b c q r s).2.clearances = s.clearances ∧
      (openSessionWork n a b c q r s).2.clearanceLock = s.clearanceLock ∧
      (openSessionWork n a b c q r s).2.auditFailure = s.auditFailure ∧
      (openSessionWork n a b c q r s).2.auditCountdown = s.auditCountdown ∧
      (openSessionWork n a b c q r s).2.lastAuditSum = s.lastAuditSum ∧
      (openSessionWork n a b c q r s).2.queue = s.queue ∧
      (openSessionWork n a b c q r s).2.serialCounter = s.serialCounter ∧
      (openSessionWork n a b c q r s).2.params = s.params ∧
      (openSessionWork n a b c q r s).2.events = s.events ∧
      (openSessionWork n a b c q r s).2.masks = s.masks ∧
      (openSessionWork n a b c q r s).2.slot = s.slot ∧
      (openSessionWork n a b c q r s).2.round = s.round ∧
      (openSessionWork n a b c q r s).2.inFlight = s.inFlight ∧
      (openSessionWork n a b c q r s).2.ltx = s.ltx ∧
      (openSessionWork n a b c q r s).2.miso = s.miso ∧
      (openSessionWork n a b c q r s).2.passDue = s.passDue ∧
      (openSessionWork n a b c q r s).2.pending = s.pending ∧
      (∀ j, (openSessionWork n a b c q r s).2.take j = s.take j) ∧
      (∀ j, (openSessionWork n a b c q r s).2.typist j = s.typist j) ∧
      (∀ j, (openSessionWork n a b c q r s).2.drop j = s.drop j) ∧
      (∀ j, (openSessionWork n a b c q r s).2.clearance j = s.clearance j) := by
  unfold openSessionWork
  try dsimp only
  (repeat' split) <;> simp [refuse]

@[simp] theorem endSessionWork_frame (s : State) (n : Half) :
      (endSessionWork n s).2.officeTime = s.officeTime ∧
      (endSessionWork n s).2.typists = s.typists ∧
      (endSessionWork n s).2.drops = s.drops ∧
      (endSessionWork n s).2.clearances = s.clearances ∧
      (endSessionWork n s).2.clearanceLock = s.clearanceLock ∧
      (endSessionWork n s).2.auditFailure = s.auditFailure ∧
      (endSessionWork n s).2.auditCountdown = s.auditCountdown ∧
      (endSessionWork n s).2.lastAuditSum = s.lastAuditSum ∧
      (endSessionWork n s).2.params = s.params ∧
      (endSessionWork n s).2.masks = s.masks ∧
      (endSessionWork n s).2.slot = s.slot ∧
      (endSessionWork n s).2.round = s.round ∧
      (endSessionWork n s).2.inFlight = s.inFlight ∧
      (endSessionWork n s).2.ltx = s.ltx ∧
      (endSessionWork n s).2.miso = s.miso ∧
      (endSessionWork n s).2.pending = s.pending ∧
      (∀ j, (endSessionWork n s).2.typist j = s.typist j) ∧
      (∀ j, (endSessionWork n s).2.drop j = s.drop j) ∧
      (∀ j, (endSessionWork n s).2.clearance j = s.clearance j) := by
  unfold endSessionWork
  try dsimp only
  (repeat' split) <;> simp [refuse]

@[simp] theorem readSessionWork_frame (s : State) (n : Half) :
      (readSessionWork n s).2.officeTime = s.officeTime ∧
      (readSessionWork n s).2.takes = s.takes ∧
      (readSessionWork n s).2.sessions = s.sessions ∧
      (readSessionWork n s).2.consoles = s.consoles ∧
      (readSessionWork n s).2.typists = s.typists ∧
      (readSessionWork n s).2.drops = s.drops ∧
      (readSessionWork n s).2.clearances = s.clearances ∧
      (readSessionWork n s).2.clearanceLock = s.clearanceLock ∧
      (readSessionWork n s).2.auditFailure = s.auditFailure ∧
      (readSessionWork n s).2.auditCountdown = s.auditCountdown ∧
      (readSessionWork n s).2.lastAuditSum = s.lastAuditSum ∧
      (readSessionWork n s).2.queue = s.queue ∧
      (readSessionWork n s).2.serialCounter = s.serialCounter ∧
      (readSessionWork n s).2.params = s.params ∧
      (readSessionWork n s).2.events = s.events ∧
      (readSessionWork n s).2.masks = s.masks ∧
      (readSessionWork n s).2.slot = s.slot ∧
      (readSessionWork n s).2.round = s.round ∧
      (readSessionWork n s).2.inFlight = s.inFlight ∧
      (readSessionWork n s).2.ltx = s.ltx ∧
      (readSessionWork n s).2.miso = s.miso ∧
      (readSessionWork n s).2.passDue = s.passDue ∧
      (readSessionWork n s).2.pending = s.pending ∧
      (∀ j, (readSessionWork n s).2.take j = s.take j) ∧
      (∀ j, (readSessionWork n s).2.session j = s.session j) ∧
      (∀ j, (readSessionWork n s).2.console j = s.console j) ∧
      (∀ j, (readSessionWork n s).2.typist j = s.typist j) ∧
      (∀ j, (readSessionWork n s).2.drop j = s.drop j) ∧
      (∀ j, (readSessionWork n s).2.clearance j = s.clearance j) := by
  unfold readSessionWork
  try dsimp only
  (repeat' split) <;> simp [refuse]

@[simp] theorem storeMark_frame (s : State) (c : ConsoleIx) (i : TakeIx) (k : MarkKind) (o : Half) (a : Option Byte) (l : Option Text) (b : Bool) :
      (storeMark c i k o a l b s).2.officeTime = s.officeTime ∧
      (storeMark c i k o a l b s).2.sessions = s.sessions ∧
      (storeMark c i k o a l b s).2.consoles = s.consoles ∧
      (storeMark c i k o a l b s).2.drops = s.drops ∧
      (storeMark c i k o a l b s).2.clearances = s.clearances ∧
      (storeMark c i k o a l b s).2.clearanceLock = s.clearanceLock ∧
      (storeMark c i k o a l b s).2.auditFailure = s.auditFailure ∧
      (storeMark c i k o a l b s).2.auditCountdown = s.auditCountdown ∧
      (storeMark c i k o a l b s).2.lastAuditSum = s.lastAuditSum ∧
      (storeMark c i k o a l b s).2.queue = s.queue ∧
      (storeMark c i k o a l b s).2.serialCounter = s.serialCounter ∧
      (storeMark c i k o a l b s).2.params = s.params ∧
      (storeMark c i k o a l b s).2.masks = s.masks ∧
      (storeMark c i k o a l b s).2.slot = s.slot ∧
      (storeMark c i k o a l b s).2.round = s.round ∧
      (storeMark c i k o a l b s).2.inFlight = s.inFlight ∧
      (storeMark c i k o a l b s).2.ltx = s.ltx ∧
      (storeMark c i k o a l b s).2.miso = s.miso ∧
      (storeMark c i k o a l b s).2.passDue = s.passDue ∧
      (storeMark c i k o a l b s).2.pending = s.pending ∧
      (∀ j, (storeMark c i k o a l b s).2.session j = s.session j) ∧
      (∀ j, (storeMark c i k o a l b s).2.console j = s.console j) ∧
      (∀ j, (storeMark c i k o a l b s).2.drop j = s.drop j) ∧
      (∀ j, (storeMark c i k o a l b s).2.clearance j = s.clearance j) := by
  unfold storeMark
  try dsimp only
  (repeat' split) <;> simp

@[simp] theorem markWork_frame (s : State) (c : ConsoleIx) (h : Half) (k : Byte) (o : Half) (a : Option Byte) (l : Option Text) :
      (markWork c h k o a l s).2.officeTime = s.officeTime ∧
      (markWork c h k o a l s).2.sessions = s.sessions ∧
      (markWork c h k o a l s).2.consoles = s.consoles ∧
      (markWork c h k o a l s).2.drops = s.drops ∧
      (markWork c h k o a l s).2.clearances = s.clearances ∧
      (markWork c h k o a l s).2.clearanceLock = s.clearanceLock ∧
      (markWork c h k o a l s).2.auditFailure = s.auditFailure ∧
      (markWork c h k o a l s).2.auditCountdown = s.auditCountdown ∧
      (markWork c h k o a l s).2.lastAuditSum = s.lastAuditSum ∧
      (markWork c h k o a l s).2.queue = s.queue ∧
      (markWork c h k o a l s).2.serialCounter = s.serialCounter ∧
      (markWork c h k o a l s).2.params = s.params ∧
      (markWork c h k o a l s).2.masks = s.masks ∧
      (markWork c h k o a l s).2.slot = s.slot ∧
      (markWork c h k o a l s).2.round = s.round ∧
      (markWork c h k o a l s).2.inFlight = s.inFlight ∧
      (markWork c h k o a l s).2.ltx = s.ltx ∧
      (markWork c h k o a l s).2.miso = s.miso ∧
      (markWork c h k o a l s).2.passDue = s.passDue ∧
      (markWork c h k o a l s).2.pending = s.pending ∧
      (∀ j, (markWork c h k o a l s).2.session j = s.session j) ∧
      (∀ j, (markWork c h k o a l s).2.console j = s.console j) ∧
      (∀ j, (markWork c h k o a l s).2.drop j = s.drop j) ∧
      (∀ j, (markWork c h k o a l s).2.clearance j = s.clearance j) := by
  unfold markWork
  try dsimp only
  (repeat' split) <;> simp [refuse]

@[simp] theorem sealWork_frame (s : State) (c : ConsoleIx) (k : Byte) (l : Option Text) :
      (sealWork c k l s).2.officeTime = s.officeTime ∧
      (sealWork c k l s).2.sessions = s.sessions ∧
      (sealWork c k l s).2.consoles = s.consoles ∧
      (sealWork c k l s).2.drops = s.drops ∧
      (sealWork c k l s).2.clearances = s.clearances ∧
      (sealWork c k l s).2.clearanceLock = s.clearanceLock ∧
      (sealWork c k l s).2.auditFailure = s.auditFailure ∧
      (sealWork c k l s).2.auditCountdown = s.auditCountdown ∧
      (sealWork c k l s).2.lastAuditSum = s.lastAuditSum ∧
      (sealWork c k l s).2.queue = s.queue ∧
      (sealWork c k l s).2.serialCounter = s.serialCounter ∧
      (sealWork c k l s).2.params = s.params ∧
      (sealWork c k l s).2.masks = s.masks ∧
      (sealWork c k l s).2.slot = s.slot ∧
      (sealWork c k l s).2.round = s.round ∧
      (sealWork c k l s).2.inFlight = s.inFlight ∧
      (sealWork c k l s).2.ltx = s.ltx ∧
      (sealWork c k l s).2.miso = s.miso ∧
      (sealWork c k l s).2.passDue = s.passDue ∧
      (sealWork c k l s).2.pending = s.pending ∧
      (∀ j, (sealWork c k l s).2.session j = s.session j) ∧
      (∀ j, (sealWork c k l s).2.console j = s.console j) ∧
      (∀ j, (sealWork c k l s).2.drop j = s.drop j) ∧
      (∀ j, (sealWork c k l s).2.clearance j = s.clearance j) := by
  unfold sealWork
  try dsimp only
  (repeat' split) <;> simp [refuse]

@[simp] theorem unsealWork_frame (s : State) (c : ConsoleIx) (l : Option Text) :
      (unsealWork c l s).2.officeTime = s.officeTime ∧
      (unsealWork c l s).2.sessions = s.sessions ∧
      (unsealWork c l s).2.consoles = s.consoles ∧
      (unsealWork c l s).2.drops = s.drops ∧
      (unsealWork c l s).2.clearances = s.clearances ∧
      (unsealWork c l s).2.clearanceLock = s.clearanceLock ∧
      (unsealWork c l s).2.auditFailure = s.auditFailure ∧
      (unsealWork c l s).2.auditCountdown = s.auditCountdown ∧
      (unsealWork c l s).2.lastAuditSum = s.lastAuditSum ∧
      (unsealWork c l s).2.queue = s.queue ∧
      (unsealWork c l s).2.serialCounter = s.serialCounter ∧
      (unsealWork c l s).2.params = s.params ∧
      (unsealWork c l s).2.masks = s.masks ∧
      (unsealWork c l s).2.slot = s.slot ∧
      (unsealWork c l s).2.round = s.round ∧
      (unsealWork c l s).2.inFlight = s.inFlight ∧
      (unsealWork c l s).2.ltx = s.ltx ∧
      (unsealWork c l s).2.miso = s.miso ∧
      (unsealWork c l s).2.passDue = s.passDue ∧
      (unsealWork c l s).2.pending = s.pending ∧
      (∀ j, (unsealWork c l s).2.session j = s.session j) ∧
      (∀ j, (unsealWork c l s).2.console j = s.console j) ∧
      (∀ j, (unsealWork c l s).2.drop j = s.drop j) ∧
      (∀ j, (unsealWork c l s).2.clearance j = s.clearance j) := by
  unfold unsealWork
  try dsimp only
  (repeat' split) <;>
    first
    | (simp [refuse]; done)
    | (rename_i h; have h' := congrArg Prod.snd h; simp only at h'; simp [← h'])

@[simp] theorem State.markResolved_frame (s : State) (i : TakeIx) (m : MarkId) :
      (s.markResolved i m).officeTime = s.officeTime ∧
      (s.markResolved i m).sessions = s.sessions ∧
      (s.markResolved i m).consoles = s.consoles ∧
      (s.markResolved i m).drops = s.drops ∧
      (s.markResolved i m).clearances = s.clearances ∧
      (s.markResolved i m).clearanceLock = s.clearanceLock ∧
      (s.markResolved i m).auditFailure = s.auditFailure ∧
      (s.markResolved i m).auditCountdown = s.auditCountdown ∧
      (s.markResolved i m).lastAuditSum = s.lastAuditSum ∧
      (s.markResolved i m).queue = s.queue ∧
      (s.markResolved i m).serialCounter = s.serialCounter ∧
      (s.markResolved i m).params = s.params ∧
      (s.markResolved i m).events = s.events ∧
      (s.markResolved i m).masks = s.masks ∧
      (s.markResolved i m).slot = s.slot ∧
      (s.markResolved i m).round = s.round ∧
      (s.markResolved i m).inFlight = s.inFlight ∧
      (s.markResolved i m).ltx = s.ltx ∧
      (s.markResolved i m).miso = s.miso ∧
      (s.markResolved i m).passDue = s.passDue ∧
      (s.markResolved i m).pending = s.pending ∧
      (∀ j, (s.markResolved i m).session j = s.session j) ∧
      (∀ j, (s.markResolved i m).console j = s.console j) ∧
      (∀ j, (s.markResolved i m).drop j = s.drop j) ∧
      (∀ j, (s.markResolved i m).clearance j = s.clearance j) := by
  unfold State.markResolved
  try dsimp only
  simp

@[simp] theorem resolveMark_frame (s : State) (i : TakeIx) (q : Mark) (z : Source) (l : Option Text) (b : Bool) :
      (resolveMark i q z l b s).2.officeTime = s.officeTime ∧
      (resolveMark i q z l b s).2.sessions = s.sessions ∧
      (resolveMark i q z l b s).2.consoles = s.consoles ∧
      (resolveMark i q z l b s).2.drops = s.drops ∧
      (resolveMark i q z l b s).2.clearances = s.clearances ∧
      (resolveMark i q z l b s).2.clearanceLock = s.clearanceLock ∧
      (resolveMark i q z l b s).2.auditFailure = s.auditFailure ∧
      (resolveMark i q z l b s).2.auditCountdown = s.auditCountdown ∧
      (resolveMark i q z l b s).2.lastAuditSum = s.lastAuditSum ∧
      (resolveMark i q z l b s).2.queue = s.queue ∧
      (resolveMark i q z l b s).2.serialCounter = s.serialCounter ∧
      (resolveMark i q z l b s).2.params = s.params ∧
      (resolveMark i q z l b s).2.masks = s.masks ∧
      (resolveMark i q z l b s).2.slot = s.slot ∧
      (resolveMark i q z l b s).2.round = s.round ∧
      (resolveMark i q z l b s).2.inFlight = s.inFlight ∧
      (resolveMark i q z l b s).2.ltx = s.ltx ∧
      (resolveMark i q z l b s).2.miso = s.miso ∧
      (resolveMark i q z l b s).2.passDue = s.passDue ∧
      (resolveMark i q z l b s).2.pending = s.pending ∧
      (∀ j, (resolveMark i q z l b s).2.session j = s.session j) ∧
      (∀ j, (resolveMark i q z l b s).2.console j = s.console j) ∧
      (∀ j, (resolveMark i q z l b s).2.drop j = s.drop j) ∧
      (∀ j, (resolveMark i q z l b s).2.clearance j = s.clearance j) := by
  unfold resolveMark
  try dsimp only
  (repeat' split) <;> simp

@[simp] theorem resolveChecked_frame (s : State) (x : Option SessionIx) (z : Source) (h m : Half) (l : Option Text) :
      (resolveChecked x z h m l s).2.officeTime = s.officeTime ∧
      (resolveChecked x z h m l s).2.sessions = s.sessions ∧
      (resolveChecked x z h m l s).2.consoles = s.consoles ∧
      (resolveChecked x z h m l s).2.drops = s.drops ∧
      (resolveChecked x z h m l s).2.clearances = s.clearances ∧
      (resolveChecked x z h m l s).2.clearanceLock = s.clearanceLock ∧
      (resolveChecked x z h m l s).2.auditFailure = s.auditFailure ∧
      (resolveChecked x z h m l s).2.auditCountdown = s.auditCountdown ∧
      (resolveChecked x z h m l s).2.lastAuditSum = s.lastAuditSum ∧
      (resolveChecked x z h m l s).2.queue = s.queue ∧
      (resolveChecked x z h m l s).2.serialCounter = s.serialCounter ∧
      (resolveChecked x z h m l s).2.params = s.params ∧
      (resolveChecked x z h m l s).2.masks = s.masks ∧
      (resolveChecked x z h m l s).2.slot = s.slot ∧
      (resolveChecked x z h m l s).2.round = s.round ∧
      (resolveChecked x z h m l s).2.inFlight = s.inFlight ∧
      (resolveChecked x z h m l s).2.ltx = s.ltx ∧
      (resolveChecked x z h m l s).2.miso = s.miso ∧
      (resolveChecked x z h m l s).2.passDue = s.passDue ∧
      (resolveChecked x z h m l s).2.pending = s.pending ∧
      (∀ j, (resolveChecked x z h m l s).2.session j = s.session j) ∧
      (∀ j, (resolveChecked x z h m l s).2.console j = s.console j) ∧
      (∀ j, (resolveChecked x z h m l s).2.drop j = s.drop j) ∧
      (∀ j, (resolveChecked x z h m l s).2.clearance j = s.clearance j) := by
  unfold resolveChecked
  try dsimp only
  (repeat' split) <;> simp [refuse]

@[simp] theorem resolveWork_frame (s : State) (a : Asker) (h m : Half) (l : Option Text) :
      (resolveWork a h m l s).2.officeTime = s.officeTime ∧
      (resolveWork a h m l s).2.sessions = s.sessions ∧
      (resolveWork a h m l s).2.consoles = s.consoles ∧
      (resolveWork a h m l s).2.drops = s.drops ∧
      (resolveWork a h m l s).2.clearances = s.clearances ∧
      (resolveWork a h m l s).2.clearanceLock = s.clearanceLock ∧
      (resolveWork a h m l s).2.auditFailure = s.auditFailure ∧
      (resolveWork a h m l s).2.auditCountdown = s.auditCountdown ∧
      (resolveWork a h m l s).2.lastAuditSum = s.lastAuditSum ∧
      (resolveWork a h m l s).2.queue = s.queue ∧
      (resolveWork a h m l s).2.serialCounter = s.serialCounter ∧
      (resolveWork a h m l s).2.params = s.params ∧
      (resolveWork a h m l s).2.masks = s.masks ∧
      (resolveWork a h m l s).2.slot = s.slot ∧
      (resolveWork a h m l s).2.round = s.round ∧
      (resolveWork a h m l s).2.inFlight = s.inFlight ∧
      (resolveWork a h m l s).2.ltx = s.ltx ∧
      (resolveWork a h m l s).2.miso = s.miso ∧
      (resolveWork a h m l s).2.passDue = s.passDue ∧
      (resolveWork a h m l s).2.pending = s.pending ∧
      (∀ j, (resolveWork a h m l s).2.session j = s.session j) ∧
      (∀ j, (resolveWork a h m l s).2.console j = s.console j) ∧
      (∀ j, (resolveWork a h m l s).2.drop j = s.drop j) ∧
      (∀ j, (resolveWork a h m l s).2.clearance j = s.clearance j) := by
  unfold resolveWork
  try dsimp only
  (repeat' split) <;> simp [refuse]

@[simp] theorem State.clearNotes_frame (s : State) (t : TypistIx) :
      (s.clearNotes t).officeTime = s.officeTime ∧
      (s.clearNotes t).takes = s.takes ∧
      (s.clearNotes t).sessions = s.sessions ∧
      (s.clearNotes t).consoles = s.consoles ∧
      (s.clearNotes t).drops = s.drops ∧
      (s.clearNotes t).clearances = s.clearances ∧
      (s.clearNotes t).clearanceLock = s.clearanceLock ∧
      (s.clearNotes t).auditFailure = s.auditFailure ∧
      (s.clearNotes t).auditCountdown = s.auditCountdown ∧
      (s.clearNotes t).lastAuditSum = s.lastAuditSum ∧
      (s.clearNotes t).queue = s.queue ∧
      (s.clearNotes t).serialCounter = s.serialCounter ∧
      (s.clearNotes t).params = s.params ∧
      (s.clearNotes t).events = s.events ∧
      (s.clearNotes t).masks = s.masks ∧
      (s.clearNotes t).slot = s.slot ∧
      (s.clearNotes t).round = s.round ∧
      (s.clearNotes t).inFlight = s.inFlight ∧
      (s.clearNotes t).ltx = s.ltx ∧
      (s.clearNotes t).miso = s.miso ∧
      (s.clearNotes t).passDue = s.passDue ∧
      (s.clearNotes t).pending = s.pending ∧
      (∀ j, (s.clearNotes t).take j = s.take j) ∧
      (∀ j, (s.clearNotes t).session j = s.session j) ∧
      (∀ j, (s.clearNotes t).console j = s.console j) ∧
      (∀ j, (s.clearNotes t).drop j = s.drop j) ∧
      (∀ j, (s.clearNotes t).clearance j = s.clearance j) := by
  unfold State.clearNotes
  try dsimp only
  simp

@[simp] theorem listWork_frame (s : State) (a : Asker) (h : Half) (n : Byte) (q : Option Byte) :
      (listWork a h n q s).2.officeTime = s.officeTime ∧
      (listWork a h n q s).2.takes = s.takes ∧
      (listWork a h n q s).2.sessions = s.sessions ∧
      (listWork a h n q s).2.consoles = s.consoles ∧
      (listWork a h n q s).2.drops = s.drops ∧
      (listWork a h n q s).2.clearances = s.clearances ∧
      (listWork a h n q s).2.clearanceLock = s.clearanceLock ∧
      (listWork a h n q s).2.auditFailure = s.auditFailure ∧
      (listWork a h n q s).2.auditCountdown = s.auditCountdown ∧
      (listWork a h n q s).2.lastAuditSum = s.lastAuditSum ∧
      (listWork a h n q s).2.queue = s.queue ∧
      (listWork a h n q s).2.serialCounter = s.serialCounter ∧
      (listWork a h n q s).2.params = s.params ∧
      (listWork a h n q s).2.events = s.events ∧
      (listWork a h n q s).2.masks = s.masks ∧
      (listWork a h n q s).2.slot = s.slot ∧
      (listWork a h n q s).2.round = s.round ∧
      (listWork a h n q s).2.inFlight = s.inFlight ∧
      (listWork a h n q s).2.ltx = s.ltx ∧
      (listWork a h n q s).2.miso = s.miso ∧
      (listWork a h n q s).2.passDue = s.passDue ∧
      (listWork a h n q s).2.pending = s.pending ∧
      (∀ j, (listWork a h n q s).2.take j = s.take j) ∧
      (∀ j, (listWork a h n q s).2.session j = s.session j) ∧
      (∀ j, (listWork a h n q s).2.console j = s.console j) ∧
      (∀ j, (listWork a h n q s).2.drop j = s.drop j) ∧
      (∀ j, (listWork a h n q s).2.clearance j = s.clearance j) := by
  unfold listWork
  try dsimp only
  (repeat' split) <;> simp [refuse]

@[simp] theorem readMarksWork_frame (s : State) (h : Half) (n : Byte) :
      (readMarksWork h n s).2.officeTime = s.officeTime ∧
      (readMarksWork h n s).2.takes = s.takes ∧
      (readMarksWork h n s).2.sessions = s.sessions ∧
      (readMarksWork h n s).2.consoles = s.consoles ∧
      (readMarksWork h n s).2.typists = s.typists ∧
      (readMarksWork h n s).2.drops = s.drops ∧
      (readMarksWork h n s).2.clearances = s.clearances ∧
      (readMarksWork h n s).2.clearanceLock = s.clearanceLock ∧
      (readMarksWork h n s).2.auditFailure = s.auditFailure ∧
      (readMarksWork h n s).2.auditCountdown = s.auditCountdown ∧
      (readMarksWork h n s).2.lastAuditSum = s.lastAuditSum ∧
      (readMarksWork h n s).2.queue = s.queue ∧
      (readMarksWork h n s).2.serialCounter = s.serialCounter ∧
      (readMarksWork h n s).2.params = s.params ∧
      (readMarksWork h n s).2.events = s.events ∧
      (readMarksWork h n s).2.masks = s.masks ∧
      (readMarksWork h n s).2.slot = s.slot ∧
      (readMarksWork h n s).2.round = s.round ∧
      (readMarksWork h n s).2.inFlight = s.inFlight ∧
      (readMarksWork h n s).2.ltx = s.ltx ∧
      (readMarksWork h n s).2.miso = s.miso ∧
      (readMarksWork h n s).2.passDue = s.passDue ∧
      (readMarksWork h n s).2.pending = s.pending ∧
      (∀ j, (readMarksWork h n s).2.take j = s.take j) ∧
      (∀ j, (readMarksWork h n s).2.session j = s.session j) ∧
      (∀ j, (readMarksWork h n s).2.console j = s.console j) ∧
      (∀ j, (readMarksWork h n s).2.typist j = s.typist j) ∧
      (∀ j, (readMarksWork h n s).2.drop j = s.drop j) ∧
      (∀ j, (readMarksWork h n s).2.clearance j = s.clearance j) := by
  unfold readMarksWork
  try dsimp only
  (repeat' split) <;> simp [refuse]

/-- A raise of the level leaves everything of a take but its level (R140). -/
theorem Take.relevelled_frame (l : Level) (t : Take) :
    { t.relevelled l with level := t.level } = t ∧ (t.relevelled l).level = max t.level l := ⟨rfl, rfl⟩

/-- A raise of the level leaves the level in force at the end of a take without SEAL-MARK-LOST (R140); with the
flag that level is the take level (R52; log entry 30). -/
theorem State.endLevel_relevelled (s : State) (l : Level) (t : Take) :
    s.endLevel (t.relevelled l) =
      if t.flags.sealMarkLost = true then max t.level l else s.endLevel t := by
  cases h : t.flags.sealMarkLost <;>
    simp [State.endLevel, Take.relevelled, State.levelUnder, State.sessionLevel, h]

/-- A found mark that is itself the console's bookmark is reported as the bookmark, and nothing is stored
(R127). -/
theorem State.bookmark_of_own (s : State) (c : ConsoleIx) (i : TakeIx) (m : Mark)
    (open_ : (s.take i).state ≠ .certified) (kind : m.kind = .bookmark) (source : m.source = .console c)
    (plain : m.speaker = none ∧ m.label = none) : s.bookmark c i m = (some m.id, s) := by
  simp [State.bookmark, NewMark.same, open_, kind, source, plain]

@[simp] theorem State.bookmark_frame (s : State) (c : ConsoleIx) (i : TakeIx) (n : Mark) :
      (s.bookmark c i n).2.officeTime = s.officeTime ∧
      (s.bookmark c i n).2.sessions = s.sessions ∧
      (s.bookmark c i n).2.consoles = s.consoles ∧
      (s.bookmark c i n).2.drops = s.drops ∧
      (s.bookmark c i n).2.clearances = s.clearances ∧
      (s.bookmark c i n).2.clearanceLock = s.clearanceLock ∧
      (s.bookmark c i n).2.auditFailure = s.auditFailure ∧
      (s.bookmark c i n).2.auditCountdown = s.auditCountdown ∧
      (s.bookmark c i n).2.lastAuditSum = s.lastAuditSum ∧
      (s.bookmark c i n).2.queue = s.queue ∧
      (s.bookmark c i n).2.serialCounter = s.serialCounter ∧
      (s.bookmark c i n).2.params = s.params ∧
      (s.bookmark c i n).2.masks = s.masks ∧
      (s.bookmark c i n).2.slot = s.slot ∧
      (s.bookmark c i n).2.round = s.round ∧
      (s.bookmark c i n).2.inFlight = s.inFlight ∧
      (s.bookmark c i n).2.ltx = s.ltx ∧
      (s.bookmark c i n).2.miso = s.miso ∧
      (s.bookmark c i n).2.passDue = s.passDue ∧
      (s.bookmark c i n).2.pending = s.pending ∧
      (∀ j, (s.bookmark c i n).2.session j = s.session j) ∧
      (∀ j, (s.bookmark c i n).2.console j = s.console j) ∧
      (∀ j, (s.bookmark c i n).2.drop j = s.drop j) ∧
      (∀ j, (s.bookmark c i n).2.clearance j = s.clearance j) := by
  unfold State.bookmark
  try dsimp only
  (repeat' split) <;> simp

@[simp] theorem locateWork_frame (s : State) (c : ConsoleIx) (a b : Option Byte) (q : Option Quad) (l : Option Byte) (m : Bool) :
      (locateWork c a b q l m s).2.officeTime = s.officeTime ∧
      (locateWork c a b q l m s).2.sessions = s.sessions ∧
      (locateWork c a b q l m s).2.consoles = s.consoles ∧
      (locateWork c a b q l m s).2.drops = s.drops ∧
      (locateWork c a b q l m s).2.clearances = s.clearances ∧
      (locateWork c a b q l m s).2.clearanceLock = s.clearanceLock ∧
      (locateWork c a b q l m s).2.auditFailure = s.auditFailure ∧
      (locateWork c a b q l m s).2.auditCountdown = s.auditCountdown ∧
      (locateWork c a b q l m s).2.lastAuditSum = s.lastAuditSum ∧
      (locateWork c a b q l m s).2.queue = s.queue ∧
      (locateWork c a b q l m s).2.serialCounter = s.serialCounter ∧
      (locateWork c a b q l m s).2.params = s.params ∧
      (locateWork c a b q l m s).2.masks = s.masks ∧
      (locateWork c a b q l m s).2.slot = s.slot ∧
      (locateWork c a b q l m s).2.round = s.round ∧
      (locateWork c a b q l m s).2.inFlight = s.inFlight ∧
      (locateWork c a b q l m s).2.ltx = s.ltx ∧
      (locateWork c a b q l m s).2.miso = s.miso ∧
      (locateWork c a b q l m s).2.passDue = s.passDue ∧
      (locateWork c a b q l m s).2.pending = s.pending ∧
      (∀ j, (locateWork c a b q l m s).2.session j = s.session j) ∧
      (∀ j, (locateWork c a b q l m s).2.console j = s.console j) ∧
      (∀ j, (locateWork c a b q l m s).2.drop j = s.drop j) ∧
      (∀ j, (locateWork c a b q l m s).2.clearance j = s.clearance j) := by
  unfold locateWork
  try dsimp only
  (repeat' split) <;> simp [refuse]

@[simp] theorem signOnWork_frame (s : State) (t : TypistIx) :
      (signOnWork t s).2.officeTime = s.officeTime ∧
      (signOnWork t s).2.takes = s.takes ∧
      (signOnWork t s).2.sessions = s.sessions ∧
      (signOnWork t s).2.consoles = s.consoles ∧
      (signOnWork t s).2.drops = s.drops ∧
      (signOnWork t s).2.clearances = s.clearances ∧
      (signOnWork t s).2.clearanceLock = s.clearanceLock ∧
      (signOnWork t s).2.auditFailure = s.auditFailure ∧
      (signOnWork t s).2.auditCountdown = s.auditCountdown ∧
      (signOnWork t s).2.lastAuditSum = s.lastAuditSum ∧
      (signOnWork t s).2.queue = s.queue ∧
      (signOnWork t s).2.serialCounter = s.serialCounter ∧
      (signOnWork t s).2.params = s.params ∧
      (signOnWork t s).2.events = s.events ∧
      (signOnWork t s).2.masks = s.masks ∧
      (signOnWork t s).2.slot = s.slot ∧
      (signOnWork t s).2.round = s.round ∧
      (signOnWork t s).2.inFlight = s.inFlight ∧
      (signOnWork t s).2.ltx = s.ltx ∧
      (signOnWork t s).2.miso = s.miso ∧
      (signOnWork t s).2.pending = s.pending ∧
      (∀ j, (signOnWork t s).2.take j = s.take j) ∧
      (∀ j, (signOnWork t s).2.session j = s.session j) ∧
      (∀ j, (signOnWork t s).2.console j = s.console j) ∧
      (∀ j, (signOnWork t s).2.drop j = s.drop j) ∧
      (∀ j, (signOnWork t s).2.clearance j = s.clearance j) := by
  unfold signOnWork
  try dsimp only
  (repeat' split) <;> simp

@[simp] theorem signOffWork_frame (s : State) (t : TypistIx) :
      (signOffWork t s).2.officeTime = s.officeTime ∧
      (signOffWork t s).2.sessions = s.sessions ∧
      (signOffWork t s).2.consoles = s.consoles ∧
      (signOffWork t s).2.clearances = s.clearances ∧
      (signOffWork t s).2.clearanceLock = s.clearanceLock ∧
      (signOffWork t s).2.auditFailure = s.auditFailure ∧
      (signOffWork t s).2.auditCountdown = s.auditCountdown ∧
      (signOffWork t s).2.lastAuditSum = s.lastAuditSum ∧
      (signOffWork t s).2.params = s.params ∧
      (signOffWork t s).2.masks = s.masks ∧
      (signOffWork t s).2.slot = s.slot ∧
      (signOffWork t s).2.round = s.round ∧
      (signOffWork t s).2.inFlight = s.inFlight ∧
      (signOffWork t s).2.ltx = s.ltx ∧
      (signOffWork t s).2.miso = s.miso ∧
      (signOffWork t s).2.pending = s.pending ∧
      (∀ j, (signOffWork t s).2.session j = s.session j) ∧
      (∀ j, (signOffWork t s).2.console j = s.console j) ∧
      (∀ j, (signOffWork t s).2.clearance j = s.clearance j) := by
  unfold signOffWork
  try dsimp only
  (repeat' split) <;> simp [refuse]

@[simp] theorem State.takeSample_frame (s : State) (t : TypistIx) (p : Nat) :
      (s.takeSample t p).officeTime = s.officeTime ∧
      (s.takeSample t p).takes = s.takes ∧
      (s.takeSample t p).sessions = s.sessions ∧
      (s.takeSample t p).consoles = s.consoles ∧
      (s.takeSample t p).drops = s.drops ∧
      (s.takeSample t p).clearances = s.clearances ∧
      (s.takeSample t p).clearanceLock = s.clearanceLock ∧
      (s.takeSample t p).auditFailure = s.auditFailure ∧
      (s.takeSample t p).auditCountdown = s.auditCountdown ∧
      (s.takeSample t p).lastAuditSum = s.lastAuditSum ∧
      (s.takeSample t p).queue = s.queue ∧
      (s.takeSample t p).serialCounter = s.serialCounter ∧
      (s.takeSample t p).params = s.params ∧
      (s.takeSample t p).events = s.events ∧
      (s.takeSample t p).masks = s.masks ∧
      (s.takeSample t p).slot = s.slot ∧
      (s.takeSample t p).round = s.round ∧
      (s.takeSample t p).inFlight = s.inFlight ∧
      (s.takeSample t p).ltx = s.ltx ∧
      (s.takeSample t p).miso = s.miso ∧
      (s.takeSample t p).passDue = s.passDue ∧
      (s.takeSample t p).pending = s.pending ∧
      (∀ j, (s.takeSample t p).take j = s.take j) ∧
      (∀ j, (s.takeSample t p).session j = s.session j) ∧
      (∀ j, (s.takeSample t p).console j = s.console j) ∧
      (∀ j, (s.takeSample t p).drop j = s.drop j) ∧
      (∀ j, (s.takeSample t p).clearance j = s.clearance j) := by
  unfold State.takeSample
  try dsimp only
  (repeat' split) <;> simp

@[simp] theorem State.recomputeSome_frame (s : State) (i : Option TakeIx) :
      (s.recomputeSome i).officeTime = s.officeTime ∧
      (s.recomputeSome i).sessions = s.sessions ∧
      (s.recomputeSome i).consoles = s.consoles ∧
      (s.recomputeSome i).typists = s.typists ∧
      (s.recomputeSome i).drops = s.drops ∧
      (s.recomputeSome i).clearances = s.clearances ∧
      (s.recomputeSome i).clearanceLock = s.clearanceLock ∧
      (s.recomputeSome i).auditFailure = s.auditFailure ∧
      (s.recomputeSome i).auditCountdown = s.auditCountdown ∧
      (s.recomputeSome i).lastAuditSum = s.lastAuditSum ∧
      (s.recomputeSome i).queue = s.queue ∧
      (s.recomputeSome i).serialCounter = s.serialCounter ∧
      (s.recomputeSome i).params = s.params ∧
      (s.recomputeSome i).masks = s.masks ∧
      (s.recomputeSome i).slot = s.slot ∧
      (s.recomputeSome i).round = s.round ∧
      (s.recomputeSome i).inFlight = s.inFlight ∧
      (s.recomputeSome i).ltx = s.ltx ∧
      (s.recomputeSome i).miso = s.miso ∧
      (s.recomputeSome i).passDue = s.passDue ∧
      (s.recomputeSome i).pending = s.pending ∧
      (∀ j, (s.recomputeSome i).session j = s.session j) ∧
      (∀ j, (s.recomputeSome i).console j = s.console j) ∧
      (∀ j, (s.recomputeSome i).typist j = s.typist j) ∧
      (∀ j, (s.recomputeSome i).drop j = s.drop j) ∧
      (∀ j, (s.recomputeSome i).clearance j = s.clearance j) := by
  unfold State.recomputeSome
  try dsimp only
  (repeat' split) <;> simp

@[simp] theorem State.sampleWithTakes_frame (s : State) (t : TypistIx) (p : Nat) :
      (s.sampleWithTakes t p).officeTime = s.officeTime ∧
      (s.sampleWithTakes t p).sessions = s.sessions ∧
      (s.sampleWithTakes t p).consoles = s.consoles ∧
      (s.sampleWithTakes t p).drops = s.drops ∧
      (s.sampleWithTakes t p).clearances = s.clearances ∧
      (s.sampleWithTakes t p).clearanceLock = s.clearanceLock ∧
      (s.sampleWithTakes t p).auditFailure = s.auditFailure ∧
      (s.sampleWithTakes t p).auditCountdown = s.auditCountdown ∧
      (s.sampleWithTakes t p).lastAuditSum = s.lastAuditSum ∧
      (s.sampleWithTakes t p).queue = s.queue ∧
      (s.sampleWithTakes t p).serialCounter = s.serialCounter ∧
      (s.sampleWithTakes t p).params = s.params ∧
      (s.sampleWithTakes t p).masks = s.masks ∧
      (s.sampleWithTakes t p).slot = s.slot ∧
      (s.sampleWithTakes t p).round = s.round ∧
      (s.sampleWithTakes t p).inFlight = s.inFlight ∧
      (s.sampleWithTakes t p).ltx = s.ltx ∧
      (s.sampleWithTakes t p).miso = s.miso ∧
      (s.sampleWithTakes t p).passDue = s.passDue ∧
      (s.sampleWithTakes t p).pending = s.pending ∧
      (∀ j, (s.sampleWithTakes t p).session j = s.session j) ∧
      (∀ j, (s.sampleWithTakes t p).console j = s.console j) ∧
      (∀ j, (s.sampleWithTakes t p).drop j = s.drop j) ∧
      (∀ j, (s.sampleWithTakes t p).clearance j = s.clearance j) := by
  unfold State.sampleWithTakes
  try dsimp only
  (repeat' split) <;> simp

@[simp] theorem checkpointWork_frame (s : State) (t : TypistIx) (h p : Half) :
      (checkpointWork t h p s).2.officeTime = s.officeTime ∧
      (checkpointWork t h p s).2.sessions = s.sessions ∧
      (checkpointWork t h p s).2.consoles = s.consoles ∧
      (checkpointWork t h p s).2.drops = s.drops ∧
      (checkpointWork t h p s).2.clearances = s.clearances ∧
      (checkpointWork t h p s).2.clearanceLock = s.clearanceLock ∧
      (checkpointWork t h p s).2.auditFailure = s.auditFailure ∧
      (checkpointWork t h p s).2.auditCountdown = s.auditCountdown ∧
      (checkpointWork t h p s).2.lastAuditSum = s.lastAuditSum ∧
      (checkpointWork t h p s).2.queue = s.queue ∧
      (checkpointWork t h p s).2.serialCounter = s.serialCounter ∧
      (checkpointWork t h p s).2.params = s.params ∧
      (checkpointWork t h p s).2.masks = s.masks ∧
      (checkpointWork t h p s).2.slot = s.slot ∧
      (checkpointWork t h p s).2.round = s.round ∧
      (checkpointWork t h p s).2.inFlight = s.inFlight ∧
      (checkpointWork t h p s).2.ltx = s.ltx ∧
      (checkpointWork t h p s).2.miso = s.miso ∧
      (checkpointWork t h p s).2.passDue = s.passDue ∧
      (checkpointWork t h p s).2.pending = s.pending ∧
      (∀ j, (checkpointWork t h p s).2.session j = s.session j) ∧
      (∀ j, (checkpointWork t h p s).2.console j = s.console j) ∧
      (∀ j, (checkpointWork t h p s).2.drop j = s.drop j) ∧
      (∀ j, (checkpointWork t h p s).2.clearance j = s.clearance j) := by
  unfold checkpointWork
  try dsimp only
  (repeat' split) <;> simp [refuse]

@[simp] theorem State.countQuery_frame (s : State) (i : TakeIx) :
      (s.countQuery i).officeTime = s.officeTime ∧
      (s.countQuery i).sessions = s.sessions ∧
      (s.countQuery i).consoles = s.consoles ∧
      (s.countQuery i).typists = s.typists ∧
      (s.countQuery i).drops = s.drops ∧
      (s.countQuery i).clearances = s.clearances ∧
      (s.countQuery i).clearanceLock = s.clearanceLock ∧
      (s.countQuery i).auditFailure = s.auditFailure ∧
      (s.countQuery i).auditCountdown = s.auditCountdown ∧
      (s.countQuery i).lastAuditSum = s.lastAuditSum ∧
      (s.countQuery i).queue = s.queue ∧
      (s.countQuery i).serialCounter = s.serialCounter ∧
      (s.countQuery i).params = s.params ∧
      (s.countQuery i).masks = s.masks ∧
      (s.countQuery i).slot = s.slot ∧
      (s.countQuery i).round = s.round ∧
      (s.countQuery i).inFlight = s.inFlight ∧
      (s.countQuery i).ltx = s.ltx ∧
      (s.countQuery i).miso = s.miso ∧
      (s.countQuery i).passDue = s.passDue ∧
      (s.countQuery i).pending = s.pending ∧
      (∀ j, (s.countQuery i).session j = s.session j) ∧
      (∀ j, (s.countQuery i).console j = s.console j) ∧
      (∀ j, (s.countQuery i).typist j = s.typist j) ∧
      (∀ j, (s.countQuery i).drop j = s.drop j) ∧
      (∀ j, (s.countQuery i).clearance j = s.clearance j) := by
  unfold State.countQuery
  try dsimp only
  simp

@[simp] theorem queryWork_frame (s : State) (t : TypistIx) (h : Half) (o : Option Half) (a : Option Byte) (l : Option Text) :
      (queryWork t h o a l s).2.officeTime = s.officeTime ∧
      (queryWork t h o a l s).2.sessions = s.sessions ∧
      (queryWork t h o a l s).2.consoles = s.consoles ∧
      (queryWork t h o a l s).2.drops = s.drops ∧
      (queryWork t h o a l s).2.clearances = s.clearances ∧
      (queryWork t h o a l s).2.clearanceLock = s.clearanceLock ∧
      (queryWork t h o a l s).2.auditFailure = s.auditFailure ∧
      (queryWork t h o a l s).2.auditCountdown = s.auditCountdown ∧
      (queryWork t h o a l s).2.lastAuditSum = s.lastAuditSum ∧
      (queryWork t h o a l s).2.queue = s.queue ∧
      (queryWork t h o a l s).2.serialCounter = s.serialCounter ∧
      (queryWork t h o a l s).2.params = s.params ∧
      (queryWork t h o a l s).2.masks = s.masks ∧
      (queryWork t h o a l s).2.slot = s.slot ∧
      (queryWork t h o a l s).2.round = s.round ∧
      (queryWork t h o a l s).2.inFlight = s.inFlight ∧
      (queryWork t h o a l s).2.ltx = s.ltx ∧
      (queryWork t h o a l s).2.miso = s.miso ∧
      (queryWork t h o a l s).2.passDue = s.passDue ∧
      (queryWork t h o a l s).2.pending = s.pending ∧
      (∀ j, (queryWork t h o a l s).2.session j = s.session j) ∧
      (∀ j, (queryWork t h o a l s).2.console j = s.console j) ∧
      (∀ j, (queryWork t h o a l s).2.drop j = s.drop j) ∧
      (∀ j, (queryWork t h o a l s).2.clearance j = s.clearance j) := by
  unfold queryWork
  try dsimp only
  (repeat' split) <;>
    first
    | (simp [refuse]; done)
    | (rename_i h; have h' := congrArg Prod.snd h; simp only at h'; simp [← h'])

@[simp] theorem State.queueResumeLast_frame (s : State) (t : TypistIx) :
      (s.queueResumeLast t).officeTime = s.officeTime ∧
      (s.queueResumeLast t).takes = s.takes ∧
      (s.queueResumeLast t).sessions = s.sessions ∧
      (s.queueResumeLast t).consoles = s.consoles ∧
      (s.queueResumeLast t).clearances = s.clearances ∧
      (s.queueResumeLast t).clearanceLock = s.clearanceLock ∧
      (s.queueResumeLast t).auditFailure = s.auditFailure ∧
      (s.queueResumeLast t).auditCountdown = s.auditCountdown ∧
      (s.queueResumeLast t).lastAuditSum = s.lastAuditSum ∧
      (s.queueResumeLast t).queue = s.queue ∧
      (s.queueResumeLast t).serialCounter = s.serialCounter ∧
      (s.queueResumeLast t).params = s.params ∧
      (s.queueResumeLast t).events = s.events ∧
      (s.queueResumeLast t).masks = s.masks ∧
      (s.queueResumeLast t).slot = s.slot ∧
      (s.queueResumeLast t).round = s.round ∧
      (s.queueResumeLast t).inFlight = s.inFlight ∧
      (s.queueResumeLast t).ltx = s.ltx ∧
      (s.queueResumeLast t).miso = s.miso ∧
      (s.queueResumeLast t).passDue = s.passDue ∧
      (s.queueResumeLast t).pending = s.pending ∧
      (∀ j, (s.queueResumeLast t).take j = s.take j) ∧
      (∀ j, (s.queueResumeLast t).session j = s.session j) ∧
      (∀ j, (s.queueResumeLast t).console j = s.console j) ∧
      (∀ j, (s.queueResumeLast t).clearance j = s.clearance j) := by
  unfold State.queueResumeLast
  try dsimp only
  (repeat' split) <;> simp

@[simp] theorem State.answerThenResume_frame (s : State) (t : TypistIx) (n : Nat) (r : Result) (b : Bool) :
      (s.answerThenResume t n r b).officeTime = s.officeTime ∧
      (s.answerThenResume t n r b).takes = s.takes ∧
      (s.answerThenResume t n r b).sessions = s.sessions ∧
      (s.answerThenResume t n r b).consoles = s.consoles ∧
      (s.answerThenResume t n r b).clearances = s.clearances ∧
      (s.answerThenResume t n r b).clearanceLock = s.clearanceLock ∧
      (s.answerThenResume t n r b).auditFailure = s.auditFailure ∧
      (s.answerThenResume t n r b).auditCountdown = s.auditCountdown ∧
      (s.answerThenResume t n r b).lastAuditSum = s.lastAuditSum ∧
      (s.answerThenResume t n r b).queue = s.queue ∧
      (s.answerThenResume t n r b).serialCounter = s.serialCounter ∧
      (s.answerThenResume t n r b).params = s.params ∧
      (s.answerThenResume t n r b).events = s.events ∧
      (s.answerThenResume t n r b).masks = s.masks ∧
      (s.answerThenResume t n r b).slot = s.slot ∧
      (s.answerThenResume t n r b).round = s.round ∧
      (s.answerThenResume t n r b).inFlight = s.inFlight ∧
      (s.answerThenResume t n r b).ltx = s.ltx ∧
      (s.answerThenResume t n r b).miso = s.miso ∧
      (s.answerThenResume t n r b).passDue = s.passDue ∧
      (s.answerThenResume t n r b).pending = s.pending ∧
      (∀ j, (s.answerThenResume t n r b).take j = s.take j) ∧
      (∀ j, (s.answerThenResume t n r b).session j = s.session j) ∧
      (∀ j, (s.answerThenResume t n r b).console j = s.console j) ∧
      (∀ j, (s.answerThenResume t n r b).clearance j = s.clearance j) := by
  unfold State.answerThenResume
  try dsimp only
  (repeat' split) <;> simp

@[simp] theorem State.returnTake_frame (s : State) (i : TakeIx) :
      (s.returnTake i).officeTime = s.officeTime ∧
      (s.returnTake i).sessions = s.sessions ∧
      (s.returnTake i).consoles = s.consoles ∧
      (s.returnTake i).typists = s.typists ∧
      (s.returnTake i).drops = s.drops ∧
      (s.returnTake i).clearances = s.clearances ∧
      (s.returnTake i).clearanceLock = s.clearanceLock ∧
      (s.returnTake i).auditFailure = s.auditFailure ∧
      (s.returnTake i).auditCountdown = s.auditCountdown ∧
      (s.returnTake i).lastAuditSum = s.lastAuditSum ∧
      (s.returnTake i).queue = s.queue ∧
      (s.returnTake i).serialCounter = s.serialCounter ∧
      (s.returnTake i).params = s.params ∧
      (s.returnTake i).masks = s.masks ∧
      (s.returnTake i).slot = s.slot ∧
      (s.returnTake i).round = s.round ∧
      (s.returnTake i).inFlight = s.inFlight ∧
      (s.returnTake i).ltx = s.ltx ∧
      (s.returnTake i).miso = s.miso ∧
      (s.returnTake i).passDue = s.passDue ∧
      (s.returnTake i).pending = s.pending ∧
      (∀ j, (s.returnTake i).session j = s.session j) ∧
      (∀ j, (s.returnTake i).console j = s.console j) ∧
      (∀ j, (s.returnTake i).typist j = s.typist j) ∧
      (∀ j, (s.returnTake i).drop j = s.drop j) ∧
      (∀ j, (s.returnTake i).clearance j = s.clearance j) := by
  unfold State.returnTake
  try dsimp only
  simp

@[simp] theorem doneRequest_frame (s : State) (t : TypistIx) (h : Half) :
      (doneRequest t h s).officeTime = s.officeTime ∧
      (doneRequest t h s).sessions = s.sessions ∧
      (doneRequest t h s).consoles = s.consoles ∧
      (doneRequest t h s).clearances = s.clearances ∧
      (doneRequest t h s).clearanceLock = s.clearanceLock ∧
      (doneRequest t h s).auditFailure = s.auditFailure ∧
      (doneRequest t h s).auditCountdown = s.auditCountdown ∧
      (doneRequest t h s).lastAuditSum = s.lastAuditSum ∧
      (doneRequest t h s).queue = s.queue ∧
      (doneRequest t h s).serialCounter = s.serialCounter ∧
      (doneRequest t h s).params = s.params ∧
      (doneRequest t h s).masks = s.masks ∧
      (doneRequest t h s).slot = s.slot ∧
      (doneRequest t h s).round = s.round ∧
      (doneRequest t h s).inFlight = s.inFlight ∧
      (doneRequest t h s).ltx = s.ltx ∧
      (doneRequest t h s).miso = s.miso ∧
      (doneRequest t h s).pending = s.pending ∧
      (∀ j, (doneRequest t h s).session j = s.session j) ∧
      (∀ j, (doneRequest t h s).console j = s.console j) ∧
      (∀ j, (doneRequest t h s).clearance j = s.clearance j) := by
  unfold doneRequest
  try dsimp only
  (repeat' split) <;> simp

@[simp] theorem releaseRequest_frame (s : State) (t : TypistIx) (h : Half) :
      (releaseRequest t h s).officeTime = s.officeTime ∧
      (releaseRequest t h s).sessions = s.sessions ∧
      (releaseRequest t h s).consoles = s.consoles ∧
      (releaseRequest t h s).clearances = s.clearances ∧
      (releaseRequest t h s).clearanceLock = s.clearanceLock ∧
      (releaseRequest t h s).auditFailure = s.auditFailure ∧
      (releaseRequest t h s).auditCountdown = s.auditCountdown ∧
      (releaseRequest t h s).lastAuditSum = s.lastAuditSum ∧
      (releaseRequest t h s).params = s.params ∧
      (releaseRequest t h s).masks = s.masks ∧
      (releaseRequest t h s).slot = s.slot ∧
      (releaseRequest t h s).round = s.round ∧
      (releaseRequest t h s).inFlight = s.inFlight ∧
      (releaseRequest t h s).ltx = s.ltx ∧
      (releaseRequest t h s).miso = s.miso ∧
      (releaseRequest t h s).pending = s.pending ∧
      (∀ j, (releaseRequest t h s).session j = s.session j) ∧
      (∀ j, (releaseRequest t h s).console j = s.console j) ∧
      (∀ j, (releaseRequest t h s).clearance j = s.clearance j) := by
  unfold releaseRequest
  try dsimp only
  (repeat' split) <;> simp

@[simp] theorem readTypistWork_frame (s : State) (n : Byte) :
      (readTypistWork n s).2.officeTime = s.officeTime ∧
      (readTypistWork n s).2.takes = s.takes ∧
      (readTypistWork n s).2.sessions = s.sessions ∧
      (readTypistWork n s).2.consoles = s.consoles ∧
      (readTypistWork n s).2.typists = s.typists ∧
      (readTypistWork n s).2.drops = s.drops ∧
      (readTypistWork n s).2.clearances = s.clearances ∧
      (readTypistWork n s).2.clearanceLock = s.clearanceLock ∧
      (readTypistWork n s).2.auditFailure = s.auditFailure ∧
      (readTypistWork n s).2.auditCountdown = s.auditCountdown ∧
      (readTypistWork n s).2.lastAuditSum = s.lastAuditSum ∧
      (readTypistWork n s).2.queue = s.queue ∧
      (readTypistWork n s).2.serialCounter = s.serialCounter ∧
      (readTypistWork n s).2.params = s.params ∧
      (readTypistWork n s).2.events = s.events ∧
      (readTypistWork n s).2.masks = s.masks ∧
      (readTypistWork n s).2.slot = s.slot ∧
      (readTypistWork n s).2.round = s.round ∧
      (readTypistWork n s).2.inFlight = s.inFlight ∧
      (readTypistWork n s).2.ltx = s.ltx ∧
      (readTypistWork n s).2.miso = s.miso ∧
      (readTypistWork n s).2.passDue = s.passDue ∧
      (readTypistWork n s).2.pending = s.pending ∧
      (∀ j, (readTypistWork n s).2.take j = s.take j) ∧
      (∀ j, (readTypistWork n s).2.session j = s.session j) ∧
      (∀ j, (readTypistWork n s).2.console j = s.console j) ∧
      (∀ j, (readTypistWork n s).2.typist j = s.typist j) ∧
      (∀ j, (readTypistWork n s).2.drop j = s.drop j) ∧
      (∀ j, (readTypistWork n s).2.clearance j = s.clearance j) := by
  unfold readTypistWork
  try dsimp only
  (repeat' split) <;> simp [refuse]

@[simp] theorem State.beginTyping_frame (s : State) (t : TypistIx) (i : TakeIx) :
      (s.beginTyping t i).officeTime = s.officeTime ∧
      (s.beginTyping t i).sessions = s.sessions ∧
      (s.beginTyping t i).consoles = s.consoles ∧
      (s.beginTyping t i).drops = s.drops ∧
      (s.beginTyping t i).clearances = s.clearances ∧
      (s.beginTyping t i).clearanceLock = s.clearanceLock ∧
      (s.beginTyping t i).auditFailure = s.auditFailure ∧
      (s.beginTyping t i).auditCountdown = s.auditCountdown ∧
      (s.beginTyping t i).lastAuditSum = s.lastAuditSum ∧
      (s.beginTyping t i).queue = s.queue ∧
      (s.beginTyping t i).serialCounter = s.serialCounter ∧
      (s.beginTyping t i).params = s.params ∧
      (s.beginTyping t i).masks = s.masks ∧
      (s.beginTyping t i).slot = s.slot ∧
      (s.beginTyping t i).round = s.round ∧
      (s.beginTyping t i).inFlight = s.inFlight ∧
      (s.beginTyping t i).ltx = s.ltx ∧
      (s.beginTyping t i).miso = s.miso ∧
      (s.beginTyping t i).passDue = s.passDue ∧
      (s.beginTyping t i).pending = s.pending ∧
      (∀ j, (s.beginTyping t i).session j = s.session j) ∧
      (∀ j, (s.beginTyping t i).console j = s.console j) ∧
      (∀ j, (s.beginTyping t i).drop j = s.drop j) ∧
      (∀ j, (s.beginTyping t i).clearance j = s.clearance j) := by
  unfold State.beginTyping
  try dsimp only
  simp

@[simp] theorem State.parkCurrent_frame (s : State) (t : TypistIx) (i : TakeIx) :
      (s.parkCurrent t i).officeTime = s.officeTime ∧
      (s.parkCurrent t i).sessions = s.sessions ∧
      (s.parkCurrent t i).consoles = s.consoles ∧
      (s.parkCurrent t i).clearances = s.clearances ∧
      (s.parkCurrent t i).clearanceLock = s.clearanceLock ∧
      (s.parkCurrent t i).auditFailure = s.auditFailure ∧
      (s.parkCurrent t i).auditCountdown = s.auditCountdown ∧
      (s.parkCurrent t i).lastAuditSum = s.lastAuditSum ∧
      (s.parkCurrent t i).queue = s.queue ∧
      (s.parkCurrent t i).serialCounter = s.serialCounter ∧
      (s.parkCurrent t i).params = s.params ∧
      (s.parkCurrent t i).events = s.events ∧
      (s.parkCurrent t i).masks = s.masks ∧
      (s.parkCurrent t i).slot = s.slot ∧
      (s.parkCurrent t i).round = s.round ∧
      (s.parkCurrent t i).inFlight = s.inFlight ∧
      (s.parkCurrent t i).ltx = s.ltx ∧
      (s.parkCurrent t i).miso = s.miso ∧
      (s.parkCurrent t i).passDue = s.passDue ∧
      (s.parkCurrent t i).pending = s.pending ∧
      (∀ j, (s.parkCurrent t i).session j = s.session j) ∧
      (∀ j, (s.parkCurrent t i).console j = s.console j) ∧
      (∀ j, (s.parkCurrent t i).clearance j = s.clearance j) := by
  unfold State.parkCurrent
  try dsimp only
  simp

@[simp] theorem acceptWork_frame (s : State) (t : TypistIx) (h : Half) :
      (acceptWork t h s).2.officeTime = s.officeTime ∧
      (acceptWork t h s).2.sessions = s.sessions ∧
      (acceptWork t h s).2.consoles = s.consoles ∧
      (acceptWork t h s).2.clearances = s.clearances ∧
      (acceptWork t h s).2.clearanceLock = s.clearanceLock ∧
      (acceptWork t h s).2.auditFailure = s.auditFailure ∧
      (acceptWork t h s).2.auditCountdown = s.auditCountdown ∧
      (acceptWork t h s).2.lastAuditSum = s.lastAuditSum ∧
      (acceptWork t h s).2.queue = s.queue ∧
      (acceptWork t h s).2.serialCounter = s.serialCounter ∧
      (acceptWork t h s).2.params = s.params ∧
      (acceptWork t h s).2.masks = s.masks ∧
      (acceptWork t h s).2.slot = s.slot ∧
      (acceptWork t h s).2.round = s.round ∧
      (acceptWork t h s).2.inFlight = s.inFlight ∧
      (acceptWork t h s).2.ltx = s.ltx ∧
      (acceptWork t h s).2.miso = s.miso ∧
      (acceptWork t h s).2.passDue = s.passDue ∧
      (acceptWork t h s).2.pending = s.pending ∧
      (∀ j, (acceptWork t h s).2.session j = s.session j) ∧
      (∀ j, (acceptWork t h s).2.console j = s.console j) ∧
      (∀ j, (acceptWork t h s).2.clearance j = s.clearance j) := by
  unfold acceptWork
  try dsimp only
  (repeat' split) <;> simp [refuse]

@[simp] theorem declineWork_frame (s : State) (t : TypistIx) (h : Half) :
      (declineWork t h s).2.officeTime = s.officeTime ∧
      (declineWork t h s).2.sessions = s.sessions ∧
      (declineWork t h s).2.consoles = s.consoles ∧
      (declineWork t h s).2.drops = s.drops ∧
      (declineWork t h s).2.clearances = s.clearances ∧
      (declineWork t h s).2.clearanceLock = s.clearanceLock ∧
      (declineWork t h s).2.auditFailure = s.auditFailure ∧
      (declineWork t h s).2.auditCountdown = s.auditCountdown ∧
      (declineWork t h s).2.lastAuditSum = s.lastAuditSum ∧
      (declineWork t h s).2.serialCounter = s.serialCounter ∧
      (declineWork t h s).2.params = s.params ∧
      (declineWork t h s).2.events = s.events ∧
      (declineWork t h s).2.masks = s.masks ∧
      (declineWork t h s).2.slot = s.slot ∧
      (declineWork t h s).2.round = s.round ∧
      (declineWork t h s).2.inFlight = s.inFlight ∧
      (declineWork t h s).2.ltx = s.ltx ∧
      (declineWork t h s).2.miso = s.miso ∧
      (declineWork t h s).2.pending = s.pending ∧
      (∀ j, (declineWork t h s).2.session j = s.session j) ∧
      (∀ j, (declineWork t h s).2.console j = s.console j) ∧
      (∀ j, (declineWork t h s).2.drop j = s.drop j) ∧
      (∀ j, (declineWork t h s).2.clearance j = s.clearance j) := by
  unfold declineWork
  try dsimp only
  (repeat' split) <;> simp [refuse]

@[simp] theorem State.applyRush_frame (s : State) (i : TakeIx) :
      (s.applyRush i).officeTime = s.officeTime ∧
      (s.applyRush i).sessions = s.sessions ∧
      (s.applyRush i).consoles = s.consoles ∧
      (s.applyRush i).typists = s.typists ∧
      (s.applyRush i).drops = s.drops ∧
      (s.applyRush i).clearances = s.clearances ∧
      (s.applyRush i).clearanceLock = s.clearanceLock ∧
      (s.applyRush i).auditFailure = s.auditFailure ∧
      (s.applyRush i).auditCountdown = s.auditCountdown ∧
      (s.applyRush i).lastAuditSum = s.lastAuditSum ∧
      (s.applyRush i).queue = s.queue ∧
      (s.applyRush i).serialCounter = s.serialCounter ∧
      (s.applyRush i).params = s.params ∧
      (s.applyRush i).events = s.events ∧
      (s.applyRush i).masks = s.masks ∧
      (s.applyRush i).slot = s.slot ∧
      (s.applyRush i).round = s.round ∧
      (s.applyRush i).inFlight = s.inFlight ∧
      (s.applyRush i).ltx = s.ltx ∧
      (s.applyRush i).miso = s.miso ∧
      (s.applyRush i).passDue = s.passDue ∧
      (s.applyRush i).pending = s.pending ∧
      (∀ j, (s.applyRush i).session j = s.session j) ∧
      (∀ j, (s.applyRush i).console j = s.console j) ∧
      (∀ j, (s.applyRush i).typist j = s.typist j) ∧
      (∀ j, (s.applyRush i).drop j = s.drop j) ∧
      (∀ j, (s.applyRush i).clearance j = s.clearance j) := by
  unfold State.applyRush
  try dsimp only
  simp

@[simp] theorem State.emptyParked_frame (s : State) (t : Option TypistIx) :
      (s.emptyParked t).officeTime = s.officeTime ∧
      (s.emptyParked t).takes = s.takes ∧
      (s.emptyParked t).sessions = s.sessions ∧
      (s.emptyParked t).consoles = s.consoles ∧
      (s.emptyParked t).drops = s.drops ∧
      (s.emptyParked t).clearances = s.clearances ∧
      (s.emptyParked t).clearanceLock = s.clearanceLock ∧
      (s.emptyParked t).auditFailure = s.auditFailure ∧
      (s.emptyParked t).auditCountdown = s.auditCountdown ∧
      (s.emptyParked t).lastAuditSum = s.lastAuditSum ∧
      (s.emptyParked t).queue = s.queue ∧
      (s.emptyParked t).serialCounter = s.serialCounter ∧
      (s.emptyParked t).params = s.params ∧
      (s.emptyParked t).events = s.events ∧
      (s.emptyParked t).masks = s.masks ∧
      (s.emptyParked t).slot = s.slot ∧
      (s.emptyParked t).round = s.round ∧
      (s.emptyParked t).inFlight = s.inFlight ∧
      (s.emptyParked t).ltx = s.ltx ∧
      (s.emptyParked t).miso = s.miso ∧
      (s.emptyParked t).passDue = s.passDue ∧
      (s.emptyParked t).pending = s.pending ∧
      (∀ j, (s.emptyParked t).take j = s.take j) ∧
      (∀ j, (s.emptyParked t).session j = s.session j) ∧
      (∀ j, (s.emptyParked t).console j = s.console j) ∧
      (∀ j, (s.emptyParked t).drop j = s.drop j) ∧
      (∀ j, (s.emptyParked t).clearance j = s.clearance j) := by
  unfold State.emptyParked
  try dsimp only
  (repeat' split) <;> simp

@[simp] theorem State.rushTake_frame (s : State) (i : TakeIx) :
      (s.rushTake i).officeTime = s.officeTime ∧
      (s.rushTake i).sessions = s.sessions ∧
      (s.rushTake i).consoles = s.consoles ∧
      (s.rushTake i).drops = s.drops ∧
      (s.rushTake i).clearances = s.clearances ∧
      (s.rushTake i).clearanceLock = s.clearanceLock ∧
      (s.rushTake i).auditFailure = s.auditFailure ∧
      (s.rushTake i).auditCountdown = s.auditCountdown ∧
      (s.rushTake i).lastAuditSum = s.lastAuditSum ∧
      (s.rushTake i).params = s.params ∧
      (s.rushTake i).masks = s.masks ∧
      (s.rushTake i).slot = s.slot ∧
      (s.rushTake i).round = s.round ∧
      (s.rushTake i).inFlight = s.inFlight ∧
      (s.rushTake i).ltx = s.ltx ∧
      (s.rushTake i).miso = s.miso ∧
      (s.rushTake i).pending = s.pending ∧
      (∀ j, (s.rushTake i).session j = s.session j) ∧
      (∀ j, (s.rushTake i).console j = s.console j) ∧
      (∀ j, (s.rushTake i).drop j = s.drop j) ∧
      (∀ j, (s.rushTake i).clearance j = s.clearance j) := by
  unfold State.rushTake
  try dsimp only
  (repeat' split) <;> simp

@[simp] theorem rushWork_frame (s : State) (c : ConsoleIx) (h : Half) :
      (rushWork c h s).2.officeTime = s.officeTime ∧
      (rushWork c h s).2.sessions = s.sessions ∧
      (rushWork c h s).2.consoles = s.consoles ∧
      (rushWork c h s).2.drops = s.drops ∧
      (rushWork c h s).2.clearances = s.clearances ∧
      (rushWork c h s).2.clearanceLock = s.clearanceLock ∧
      (rushWork c h s).2.auditFailure = s.auditFailure ∧
      (rushWork c h s).2.auditCountdown = s.auditCountdown ∧
      (rushWork c h s).2.lastAuditSum = s.lastAuditSum ∧
      (rushWork c h s).2.params = s.params ∧
      (rushWork c h s).2.masks = s.masks ∧
      (rushWork c h s).2.slot = s.slot ∧
      (rushWork c h s).2.round = s.round ∧
      (rushWork c h s).2.inFlight = s.inFlight ∧
      (rushWork c h s).2.ltx = s.ltx ∧
      (rushWork c h s).2.miso = s.miso ∧
      (rushWork c h s).2.pending = s.pending ∧
      (∀ j, (rushWork c h s).2.session j = s.session j) ∧
      (∀ j, (rushWork c h s).2.console j = s.console j) ∧
      (∀ j, (rushWork c h s).2.drop j = s.drop j) ∧
      (∀ j, (rushWork c h s).2.clearance j = s.clearance j) := by
  unfold rushWork
  try dsimp only
  (repeat' split) <;> simp [refuse]

@[simp] theorem State.setDeadline_frame (s : State) (i : TakeIx) (n : Nat) :
      (s.setDeadline i n).officeTime = s.officeTime ∧
      (s.setDeadline i n).sessions = s.sessions ∧
      (s.setDeadline i n).consoles = s.consoles ∧
      (s.setDeadline i n).typists = s.typists ∧
      (s.setDeadline i n).drops = s.drops ∧
      (s.setDeadline i n).clearances = s.clearances ∧
      (s.setDeadline i n).clearanceLock = s.clearanceLock ∧
      (s.setDeadline i n).auditFailure = s.auditFailure ∧
      (s.setDeadline i n).auditCountdown = s.auditCountdown ∧
      (s.setDeadline i n).lastAuditSum = s.lastAuditSum ∧
      (s.setDeadline i n).serialCounter = s.serialCounter ∧
      (s.setDeadline i n).params = s.params ∧
      (s.setDeadline i n).masks = s.masks ∧
      (s.setDeadline i n).slot = s.slot ∧
      (s.setDeadline i n).round = s.round ∧
      (s.setDeadline i n).inFlight = s.inFlight ∧
      (s.setDeadline i n).ltx = s.ltx ∧
      (s.setDeadline i n).miso = s.miso ∧
      (s.setDeadline i n).passDue = s.passDue ∧
      (s.setDeadline i n).pending = s.pending ∧
      (∀ j, (s.setDeadline i n).session j = s.session j) ∧
      (∀ j, (s.setDeadline i n).console j = s.console j) ∧
      (∀ j, (s.setDeadline i n).typist j = s.typist j) ∧
      (∀ j, (s.setDeadline i n).drop j = s.drop j) ∧
      (∀ j, (s.setDeadline i n).clearance j = s.clearance j) := by
  unfold State.setDeadline
  try dsimp only
  (repeat' split) <;> simp

@[simp] theorem setDeadlineWork_frame (s : State) (h : Half) (n : Quad) :
      (setDeadlineWork h n s).2.officeTime = s.officeTime ∧
      (setDeadlineWork h n s).2.sessions = s.sessions ∧
      (setDeadlineWork h n s).2.consoles = s.consoles ∧
      (setDeadlineWork h n s).2.typists = s.typists ∧
      (setDeadlineWork h n s).2.drops = s.drops ∧
      (setDeadlineWork h n s).2.clearances = s.clearances ∧
      (setDeadlineWork h n s).2.clearanceLock = s.clearanceLock ∧
      (setDeadlineWork h n s).2.auditFailure = s.auditFailure ∧
      (setDeadlineWork h n s).2.auditCountdown = s.auditCountdown ∧
      (setDeadlineWork h n s).2.lastAuditSum = s.lastAuditSum ∧
      (setDeadlineWork h n s).2.serialCounter = s.serialCounter ∧
      (setDeadlineWork h n s).2.params = s.params ∧
      (setDeadlineWork h n s).2.masks = s.masks ∧
      (setDeadlineWork h n s).2.slot = s.slot ∧
      (setDeadlineWork h n s).2.round = s.round ∧
      (setDeadlineWork h n s).2.inFlight = s.inFlight ∧
      (setDeadlineWork h n s).2.ltx = s.ltx ∧
      (setDeadlineWork h n s).2.miso = s.miso ∧
      (setDeadlineWork h n s).2.passDue = s.passDue ∧
      (setDeadlineWork h n s).2.pending = s.pending ∧
      (∀ j, (setDeadlineWork h n s).2.session j = s.session j) ∧
      (∀ j, (setDeadlineWork h n s).2.console j = s.console j) ∧
      (∀ j, (setDeadlineWork h n s).2.typist j = s.typist j) ∧
      (∀ j, (setDeadlineWork h n s).2.drop j = s.drop j) ∧
      (∀ j, (setDeadlineWork h n s).2.clearance j = s.clearance j) := by
  unfold setDeadlineWork
  try dsimp only
  (repeat' split) <;> simp [refuse]

@[simp] theorem State.setPlainClass_frame (s : State) (i : TakeIx) (k : TakeClass) :
      (s.setPlainClass i k).officeTime = s.officeTime ∧
      (s.setPlainClass i k).sessions = s.sessions ∧
      (s.setPlainClass i k).consoles = s.consoles ∧
      (s.setPlainClass i k).typists = s.typists ∧
      (s.setPlainClass i k).drops = s.drops ∧
      (s.setPlainClass i k).clearances = s.clearances ∧
      (s.setPlainClass i k).clearanceLock = s.clearanceLock ∧
      (s.setPlainClass i k).auditFailure = s.auditFailure ∧
      (s.setPlainClass i k).auditCountdown = s.auditCountdown ∧
      (s.setPlainClass i k).lastAuditSum = s.lastAuditSum ∧
      (s.setPlainClass i k).serialCounter = s.serialCounter ∧
      (s.setPlainClass i k).params = s.params ∧
      (s.setPlainClass i k).events = s.events ∧
      (s.setPlainClass i k).masks = s.masks ∧
      (s.setPlainClass i k).slot = s.slot ∧
      (s.setPlainClass i k).round = s.round ∧
      (s.setPlainClass i k).inFlight = s.inFlight ∧
      (s.setPlainClass i k).ltx = s.ltx ∧
      (s.setPlainClass i k).miso = s.miso ∧
      (s.setPlainClass i k).passDue = s.passDue ∧
      (s.setPlainClass i k).pending = s.pending ∧
      (∀ j, (s.setPlainClass i k).session j = s.session j) ∧
      (∀ j, (s.setPlainClass i k).console j = s.console j) ∧
      (∀ j, (s.setPlainClass i k).typist j = s.typist j) ∧
      (∀ j, (s.setPlainClass i k).drop j = s.drop j) ∧
      (∀ j, (s.setPlainClass i k).clearance j = s.clearance j) := by
  unfold State.setPlainClass
  try dsimp only
  (repeat' split) <;> simp

@[simp] theorem setClassWork_frame (s : State) (h : Half) (k : Byte) :
      (setClassWork h k s).2.officeTime = s.officeTime ∧
      (setClassWork h k s).2.sessions = s.sessions ∧
      (setClassWork h k s).2.consoles = s.consoles ∧
      (setClassWork h k s).2.drops = s.drops ∧
      (setClassWork h k s).2.clearances = s.clearances ∧
      (setClassWork h k s).2.clearanceLock = s.clearanceLock ∧
      (setClassWork h k s).2.auditFailure = s.auditFailure ∧
      (setClassWork h k s).2.auditCountdown = s.auditCountdown ∧
      (setClassWork h k s).2.lastAuditSum = s.lastAuditSum ∧
      (setClassWork h k s).2.params = s.params ∧
      (setClassWork h k s).2.masks = s.masks ∧
      (setClassWork h k s).2.slot = s.slot ∧
      (setClassWork h k s).2.round = s.round ∧
      (setClassWork h k s).2.inFlight = s.inFlight ∧
      (setClassWork h k s).2.ltx = s.ltx ∧
      (setClassWork h k s).2.miso = s.miso ∧
      (setClassWork h k s).2.pending = s.pending ∧
      (∀ j, (setClassWork h k s).2.session j = s.session j) ∧
      (∀ j, (setClassWork h k s).2.console j = s.console j) ∧
      (∀ j, (setClassWork h k s).2.drop j = s.drop j) ∧
      (∀ j, (setClassWork h k s).2.clearance j = s.clearance j) := by
  unfold setClassWork
  try dsimp only
  (repeat' split) <;> simp [refuse]

@[simp] theorem readTakeWork_frame (s : State) (h : Half) :
      (readTakeWork h s).2.officeTime = s.officeTime ∧
      (readTakeWork h s).2.takes = s.takes ∧
      (readTakeWork h s).2.sessions = s.sessions ∧
      (readTakeWork h s).2.consoles = s.consoles ∧
      (readTakeWork h s).2.typists = s.typists ∧
      (readTakeWork h s).2.drops = s.drops ∧
      (readTakeWork h s).2.clearances = s.clearances ∧
      (readTakeWork h s).2.clearanceLock = s.clearanceLock ∧
      (readTakeWork h s).2.auditFailure = s.auditFailure ∧
      (readTakeWork h s).2.auditCountdown = s.auditCountdown ∧
      (readTakeWork h s).2.lastAuditSum = s.lastAuditSum ∧
      (readTakeWork h s).2.queue = s.queue ∧
      (readTakeWork h s).2.serialCounter = s.serialCounter ∧
      (readTakeWork h s).2.params = s.params ∧
      (readTakeWork h s).2.events = s.events ∧
      (readTakeWork h s).2.masks = s.masks ∧
      (readTakeWork h s).2.slot = s.slot ∧
      (readTakeWork h s).2.round = s.round ∧
      (readTakeWork h s).2.inFlight = s.inFlight ∧
      (readTakeWork h s).2.ltx = s.ltx ∧
      (readTakeWork h s).2.miso = s.miso ∧
      (readTakeWork h s).2.passDue = s.passDue ∧
      (readTakeWork h s).2.pending = s.pending ∧
      (∀ j, (readTakeWork h s).2.take j = s.take j) ∧
      (∀ j, (readTakeWork h s).2.session j = s.session j) ∧
      (∀ j, (readTakeWork h s).2.console j = s.console j) ∧
      (∀ j, (readTakeWork h s).2.typist j = s.typist j) ∧
      (∀ j, (readTakeWork h s).2.drop j = s.drop j) ∧
      (∀ j, (readTakeWork h s).2.clearance j = s.clearance j) := by
  unfold readTakeWork
  try dsimp only
  (repeat' split) <;> simp [refuse]

@[simp] theorem scanTakesWork_frame (s : State) (n : Half) (a b : Byte) :
      (scanTakesWork n a b s).2.officeTime = s.officeTime ∧
      (scanTakesWork n a b s).2.takes = s.takes ∧
      (scanTakesWork n a b s).2.sessions = s.sessions ∧
      (scanTakesWork n a b s).2.consoles = s.consoles ∧
      (scanTakesWork n a b s).2.typists = s.typists ∧
      (scanTakesWork n a b s).2.drops = s.drops ∧
      (scanTakesWork n a b s).2.clearances = s.clearances ∧
      (scanTakesWork n a b s).2.clearanceLock = s.clearanceLock ∧
      (scanTakesWork n a b s).2.auditFailure = s.auditFailure ∧
      (scanTakesWork n a b s).2.auditCountdown = s.auditCountdown ∧
      (scanTakesWork n a b s).2.lastAuditSum = s.lastAuditSum ∧
      (scanTakesWork n a b s).2.queue = s.queue ∧
      (scanTakesWork n a b s).2.serialCounter = s.serialCounter ∧
      (scanTakesWork n a b s).2.params = s.params ∧
      (scanTakesWork n a b s).2.events = s.events ∧
      (scanTakesWork n a b s).2.masks = s.masks ∧
      (scanTakesWork n a b s).2.slot = s.slot ∧
      (scanTakesWork n a b s).2.round = s.round ∧
      (scanTakesWork n a b s).2.inFlight = s.inFlight ∧
      (scanTakesWork n a b s).2.ltx = s.ltx ∧
      (scanTakesWork n a b s).2.miso = s.miso ∧
      (scanTakesWork n a b s).2.passDue = s.passDue ∧
      (scanTakesWork n a b s).2.pending = s.pending ∧
      (∀ j, (scanTakesWork n a b s).2.take j = s.take j) ∧
      (∀ j, (scanTakesWork n a b s).2.session j = s.session j) ∧
      (∀ j, (scanTakesWork n a b s).2.console j = s.console j) ∧
      (∀ j, (scanTakesWork n a b s).2.typist j = s.typist j) ∧
      (∀ j, (scanTakesWork n a b s).2.drop j = s.drop j) ∧
      (∀ j, (scanTakesWork n a b s).2.clearance j = s.clearance j) := by
  unfold scanTakesWork
  try dsimp only
  (repeat' split) <;> simp

@[simp] theorem withdrawWork_frame (s : State) (h : Half) :
      (withdrawWork h s).2.officeTime = s.officeTime ∧
      (withdrawWork h s).2.sessions = s.sessions ∧
      (withdrawWork h s).2.consoles = s.consoles ∧
      (withdrawWork h s).2.clearances = s.clearances ∧
      (withdrawWork h s).2.clearanceLock = s.clearanceLock ∧
      (withdrawWork h s).2.auditFailure = s.auditFailure ∧
      (withdrawWork h s).2.auditCountdown = s.auditCountdown ∧
      (withdrawWork h s).2.lastAuditSum = s.lastAuditSum ∧
      (withdrawWork h s).2.params = s.params ∧
      (withdrawWork h s).2.masks = s.masks ∧
      (withdrawWork h s).2.slot = s.slot ∧
      (withdrawWork h s).2.round = s.round ∧
      (withdrawWork h s).2.inFlight = s.inFlight ∧
      (withdrawWork h s).2.ltx = s.ltx ∧
      (withdrawWork h s).2.miso = s.miso ∧
      (withdrawWork h s).2.pending = s.pending ∧
      (∀ j, (withdrawWork h s).2.session j = s.session j) ∧
      (∀ j, (withdrawWork h s).2.console j = s.console j) ∧
      (∀ j, (withdrawWork h s).2.clearance j = s.clearance j) := by
  unfold withdrawWork
  try dsimp only
  (repeat' split) <;> simp [refuse]

@[simp] theorem State.requeue_frame (s : State) (i : TakeIx) (n : Nat) :
      (s.requeue i n).officeTime = s.officeTime ∧
      (s.requeue i n).sessions = s.sessions ∧
      (s.requeue i n).consoles = s.consoles ∧
      (s.requeue i n).typists = s.typists ∧
      (s.requeue i n).drops = s.drops ∧
      (s.requeue i n).clearances = s.clearances ∧
      (s.requeue i n).clearanceLock = s.clearanceLock ∧
      (s.requeue i n).auditFailure = s.auditFailure ∧
      (s.requeue i n).auditCountdown = s.auditCountdown ∧
      (s.requeue i n).lastAuditSum = s.lastAuditSum ∧
      (s.requeue i n).params = s.params ∧
      (s.requeue i n).masks = s.masks ∧
      (s.requeue i n).slot = s.slot ∧
      (s.requeue i n).round = s.round ∧
      (s.requeue i n).inFlight = s.inFlight ∧
      (s.requeue i n).ltx = s.ltx ∧
      (s.requeue i n).miso = s.miso ∧
      (s.requeue i n).pending = s.pending ∧
      (∀ j, (s.requeue i n).session j = s.session j) ∧
      (∀ j, (s.requeue i n).console j = s.console j) ∧
      (∀ j, (s.requeue i n).typist j = s.typist j) ∧
      (∀ j, (s.requeue i n).drop j = s.drop j) ∧
      (∀ j, (s.requeue i n).clearance j = s.clearance j) := by
  unfold State.requeue
  try dsimp only
  simp

@[simp] theorem requeueWork_frame (s : State) (h p : Half) :
      (requeueWork h p s).2.officeTime = s.officeTime ∧
      (requeueWork h p s).2.sessions = s.sessions ∧
      (requeueWork h p s).2.consoles = s.consoles ∧
      (requeueWork h p s).2.typists = s.typists ∧
      (requeueWork h p s).2.drops = s.drops ∧
      (requeueWork h p s).2.clearances = s.clearances ∧
      (requeueWork h p s).2.clearanceLock = s.clearanceLock ∧
      (requeueWork h p s).2.auditFailure = s.auditFailure ∧
      (requeueWork h p s).2.auditCountdown = s.auditCountdown ∧
      (requeueWork h p s).2.lastAuditSum = s.lastAuditSum ∧
      (requeueWork h p s).2.params = s.params ∧
      (requeueWork h p s).2.masks = s.masks ∧
      (requeueWork h p s).2.slot = s.slot ∧
      (requeueWork h p s).2.round = s.round ∧
      (requeueWork h p s).2.inFlight = s.inFlight ∧
      (requeueWork h p s).2.ltx = s.ltx ∧
      (requeueWork h p s).2.miso = s.miso ∧
      (requeueWork h p s).2.pending = s.pending ∧
      (∀ j, (requeueWork h p s).2.session j = s.session j) ∧
      (∀ j, (requeueWork h p s).2.console j = s.console j) ∧
      (∀ j, (requeueWork h p s).2.typist j = s.typist j) ∧
      (∀ j, (requeueWork h p s).2.drop j = s.drop j) ∧
      (∀ j, (requeueWork h p s).2.clearance j = s.clearance j) := by
  unfold requeueWork
  try dsimp only
  (repeat' split) <;> simp [refuse]

@[simp] theorem certifyWork_frame (s : State) (h : Half) :
      (certifyWork h s).2.officeTime = s.officeTime ∧
      (certifyWork h s).2.sessions = s.sessions ∧
      (certifyWork h s).2.consoles = s.consoles ∧
      (certifyWork h s).2.typists = s.typists ∧
      (certifyWork h s).2.drops = s.drops ∧
      (certifyWork h s).2.clearances = s.clearances ∧
      (certifyWork h s).2.clearanceLock = s.clearanceLock ∧
      (certifyWork h s).2.auditFailure = s.auditFailure ∧
      (certifyWork h s).2.auditCountdown = s.auditCountdown ∧
      (certifyWork h s).2.lastAuditSum = s.lastAuditSum ∧
      (certifyWork h s).2.queue = s.queue ∧
      (certifyWork h s).2.serialCounter = s.serialCounter ∧
      (certifyWork h s).2.params = s.params ∧
      (certifyWork h s).2.events = s.events ∧
      (certifyWork h s).2.masks = s.masks ∧
      (certifyWork h s).2.slot = s.slot ∧
      (certifyWork h s).2.round = s.round ∧
      (certifyWork h s).2.inFlight = s.inFlight ∧
      (certifyWork h s).2.ltx = s.ltx ∧
      (certifyWork h s).2.miso = s.miso ∧
      (certifyWork h s).2.passDue = s.passDue ∧
      (certifyWork h s).2.pending = s.pending ∧
      (∀ j, (certifyWork h s).2.session j = s.session j) ∧
      (∀ j, (certifyWork h s).2.console j = s.console j) ∧
      (∀ j, (certifyWork h s).2.typist j = s.typist j) ∧
      (∀ j, (certifyWork h s).2.drop j = s.drop j) ∧
      (∀ j, (certifyWork h s).2.clearance j = s.clearance j) := by
  unfold certifyWork
  try dsimp only
  (repeat' split) <;> simp [refuse]

@[simp] theorem State.leaveSession_frame (s : State) (i : TakeIx) (x : Option SessionIx) :
      (s.leaveSession i x).officeTime = s.officeTime ∧
      (s.leaveSession i x).takes = s.takes ∧
      (s.leaveSession i x).consoles = s.consoles ∧
      (s.leaveSession i x).typists = s.typists ∧
      (s.leaveSession i x).drops = s.drops ∧
      (s.leaveSession i x).clearances = s.clearances ∧
      (s.leaveSession i x).clearanceLock = s.clearanceLock ∧
      (s.leaveSession i x).auditFailure = s.auditFailure ∧
      (s.leaveSession i x).auditCountdown = s.auditCountdown ∧
      (s.leaveSession i x).lastAuditSum = s.lastAuditSum ∧
      (s.leaveSession i x).queue = s.queue ∧
      (s.leaveSession i x).serialCounter = s.serialCounter ∧
      (s.leaveSession i x).params = s.params ∧
      (s.leaveSession i x).events = s.events ∧
      (s.leaveSession i x).masks = s.masks ∧
      (s.leaveSession i x).slot = s.slot ∧
      (s.leaveSession i x).round = s.round ∧
      (s.leaveSession i x).inFlight = s.inFlight ∧
      (s.leaveSession i x).ltx = s.ltx ∧
      (s.leaveSession i x).miso = s.miso ∧
      (s.leaveSession i x).passDue = s.passDue ∧
      (s.leaveSession i x).pending = s.pending ∧
      (∀ j, (s.leaveSession i x).take j = s.take j) ∧
      (∀ j, (s.leaveSession i x).console j = s.console j) ∧
      (∀ j, (s.leaveSession i x).typist j = s.typist j) ∧
      (∀ j, (s.leaveSession i x).drop j = s.drop j) ∧
      (∀ j, (s.leaveSession i x).clearance j = s.clearance j) := by
  unfold State.leaveSession
  try dsimp only
  (repeat' split) <;> simp

@[simp] theorem State.retire_frame (s : State) (i : TakeIx) :
      (s.retire i).officeTime = s.officeTime ∧
      (s.retire i).consoles = s.consoles ∧
      (s.retire i).typists = s.typists ∧
      (s.retire i).drops = s.drops ∧
      (s.retire i).clearances = s.clearances ∧
      (s.retire i).clearanceLock = s.clearanceLock ∧
      (s.retire i).auditFailure = s.auditFailure ∧
      (s.retire i).auditCountdown = s.auditCountdown ∧
      (s.retire i).lastAuditSum = s.lastAuditSum ∧
      (s.retire i).serialCounter = s.serialCounter ∧
      (s.retire i).params = s.params ∧
      (s.retire i).events = s.events ∧
      (s.retire i).masks = s.masks ∧
      (s.retire i).slot = s.slot ∧
      (s.retire i).round = s.round ∧
      (s.retire i).inFlight = s.inFlight ∧
      (s.retire i).ltx = s.ltx ∧
      (s.retire i).miso = s.miso ∧
      (s.retire i).passDue = s.passDue ∧
      (s.retire i).pending = s.pending ∧
      (∀ j, (s.retire i).console j = s.console j) ∧
      (∀ j, (s.retire i).typist j = s.typist j) ∧
      (∀ j, (s.retire i).drop j = s.drop j) ∧
      (∀ j, (s.retire i).clearance j = s.clearance j) := by
  unfold State.retire
  try dsimp only
  simp

@[simp] theorem retireWork_frame (s : State) (h : Half) :
      (retireWork h s).2.officeTime = s.officeTime ∧
      (retireWork h s).2.consoles = s.consoles ∧
      (retireWork h s).2.typists = s.typists ∧
      (retireWork h s).2.drops = s.drops ∧
      (retireWork h s).2.clearances = s.clearances ∧
      (retireWork h s).2.clearanceLock = s.clearanceLock ∧
      (retireWork h s).2.auditFailure = s.auditFailure ∧
      (retireWork h s).2.auditCountdown = s.auditCountdown ∧
      (retireWork h s).2.lastAuditSum = s.lastAuditSum ∧
      (retireWork h s).2.serialCounter = s.serialCounter ∧
      (retireWork h s).2.params = s.params ∧
      (retireWork h s).2.events = s.events ∧
      (retireWork h s).2.masks = s.masks ∧
      (retireWork h s).2.slot = s.slot ∧
      (retireWork h s).2.round = s.round ∧
      (retireWork h s).2.inFlight = s.inFlight ∧
      (retireWork h s).2.ltx = s.ltx ∧
      (retireWork h s).2.miso = s.miso ∧
      (retireWork h s).2.passDue = s.passDue ∧
      (retireWork h s).2.pending = s.pending ∧
      (∀ j, (retireWork h s).2.console j = s.console j) ∧
      (∀ j, (retireWork h s).2.typist j = s.typist j) ∧
      (∀ j, (retireWork h s).2.drop j = s.drop j) ∧
      (∀ j, (retireWork h s).2.clearance j = s.clearance j) := by
  unfold retireWork
  try dsimp only
  (repeat' split) <;> simp [refuse]

@[simp] theorem probeWork_frame (s : State) (a : Asker) (h : Half) (q : Option Byte) :
      (probeWork a h q s).2.officeTime = s.officeTime ∧
      (probeWork a h q s).2.takes = s.takes ∧
      (probeWork a h q s).2.sessions = s.sessions ∧
      (probeWork a h q s).2.consoles = s.consoles ∧
      (probeWork a h q s).2.typists = s.typists ∧
      (probeWork a h q s).2.drops = s.drops ∧
      (probeWork a h q s).2.clearances = s.clearances ∧
      (probeWork a h q s).2.clearanceLock = s.clearanceLock ∧
      (probeWork a h q s).2.auditFailure = s.auditFailure ∧
      (probeWork a h q s).2.auditCountdown = s.auditCountdown ∧
      (probeWork a h q s).2.lastAuditSum = s.lastAuditSum ∧
      (probeWork a h q s).2.queue = s.queue ∧
      (probeWork a h q s).2.serialCounter = s.serialCounter ∧
      (probeWork a h q s).2.params = s.params ∧
      (probeWork a h q s).2.events = s.events ∧
      (probeWork a h q s).2.masks = s.masks ∧
      (probeWork a h q s).2.slot = s.slot ∧
      (probeWork a h q s).2.round = s.round ∧
      (probeWork a h q s).2.inFlight = s.inFlight ∧
      (probeWork a h q s).2.ltx = s.ltx ∧
      (probeWork a h q s).2.miso = s.miso ∧
      (probeWork a h q s).2.passDue = s.passDue ∧
      (probeWork a h q s).2.pending = s.pending ∧
      (∀ j, (probeWork a h q s).2.take j = s.take j) ∧
      (∀ j, (probeWork a h q s).2.session j = s.session j) ∧
      (∀ j, (probeWork a h q s).2.console j = s.console j) ∧
      (∀ j, (probeWork a h q s).2.typist j = s.typist j) ∧
      (∀ j, (probeWork a h q s).2.drop j = s.drop j) ∧
      (∀ j, (probeWork a h q s).2.clearance j = s.clearance j) := by
  unfold probeWork
  try dsimp only
  (repeat' split) <;> simp

/-- A clearance refused under the lock changes nothing, and is answered GUARDED with CLAMPED as told (R138, R139). -/
theorem refuseRaise_spec (clamped : Bool) (s : State) :
    (refuseRaise clamped s).2 = s ∧ (refuseRaise clamped s).1.status = .guarded ∧
      (refuseRaise clamped s).1.clamped = clamped ∧ (refuseRaise clamped s).1.fields = [] :=
  ⟨rfl, rfl, rfl, rfl⟩

@[simp] theorem setConsoleWork_frame (s : State) (n k : Byte) :
      (setConsoleWork n k s).2.officeTime = s.officeTime ∧
      (setConsoleWork n k s).2.takes = s.takes ∧
      (setConsoleWork n k s).2.sessions = s.sessions ∧
      (setConsoleWork n k s).2.consoles = s.consoles ∧
      (setConsoleWork n k s).2.drops = s.drops ∧
      (setConsoleWork n k s).2.clearanceLock = s.clearanceLock ∧
      (setConsoleWork n k s).2.auditFailure = s.auditFailure ∧
      (setConsoleWork n k s).2.auditCountdown = s.auditCountdown ∧
      (setConsoleWork n k s).2.lastAuditSum = s.lastAuditSum ∧
      (setConsoleWork n k s).2.queue = s.queue ∧
      (setConsoleWork n k s).2.serialCounter = s.serialCounter ∧
      (setConsoleWork n k s).2.params = s.params ∧
      (setConsoleWork n k s).2.events = s.events ∧
      (setConsoleWork n k s).2.masks = s.masks ∧
      (setConsoleWork n k s).2.slot = s.slot ∧
      (setConsoleWork n k s).2.round = s.round ∧
      (setConsoleWork n k s).2.inFlight = s.inFlight ∧
      (setConsoleWork n k s).2.ltx = s.ltx ∧
      (setConsoleWork n k s).2.miso = s.miso ∧
      (setConsoleWork n k s).2.passDue = s.passDue ∧
      (setConsoleWork n k s).2.pending = s.pending ∧
      (∀ j, (setConsoleWork n k s).2.take j = s.take j) ∧
      (∀ j, (setConsoleWork n k s).2.session j = s.session j) ∧
      (∀ j, (setConsoleWork n k s).2.console j = s.console j) ∧
      (∀ j, (setConsoleWork n k s).2.drop j = s.drop j) := by
  unfold setConsoleWork
  try dsimp only
  (repeat' split) <;> simp [refuse, refuseRaise]

@[simp] theorem lockClearanceWork_frame (s : State) :
      (lockClearanceWork s).2.officeTime = s.officeTime ∧
      (lockClearanceWork s).2.takes = s.takes ∧
      (lockClearanceWork s).2.sessions = s.sessions ∧
      (lockClearanceWork s).2.consoles = s.consoles ∧
      (lockClearanceWork s).2.typists = s.typists ∧
      (lockClearanceWork s).2.drops = s.drops ∧
      (lockClearanceWork s).2.clearances = s.clearances ∧
      (lockClearanceWork s).2.auditFailure = s.auditFailure ∧
      (lockClearanceWork s).2.auditCountdown = s.auditCountdown ∧
      (lockClearanceWork s).2.lastAuditSum = s.lastAuditSum ∧
      (lockClearanceWork s).2.queue = s.queue ∧
      (lockClearanceWork s).2.serialCounter = s.serialCounter ∧
      (lockClearanceWork s).2.params = s.params ∧
      (lockClearanceWork s).2.events = s.events ∧
      (lockClearanceWork s).2.masks = s.masks ∧
      (lockClearanceWork s).2.slot = s.slot ∧
      (lockClearanceWork s).2.round = s.round ∧
      (lockClearanceWork s).2.inFlight = s.inFlight ∧
      (lockClearanceWork s).2.ltx = s.ltx ∧
      (lockClearanceWork s).2.miso = s.miso ∧
      (lockClearanceWork s).2.passDue = s.passDue ∧
      (lockClearanceWork s).2.pending = s.pending ∧
      (∀ j, (lockClearanceWork s).2.take j = s.take j) ∧
      (∀ j, (lockClearanceWork s).2.session j = s.session j) ∧
      (∀ j, (lockClearanceWork s).2.console j = s.console j) ∧
      (∀ j, (lockClearanceWork s).2.typist j = s.typist j) ∧
      (∀ j, (lockClearanceWork s).2.drop j = s.drop j) ∧
      (∀ j, (lockClearanceWork s).2.clearance j = s.clearance j) := by
  simp [lockClearanceWork, State.take, State.session, State.console, State.typist, State.drop, State.clearance]

@[simp] theorem State.relevel_frame (s : State) (i : TakeIx) (l : Level) :
      (s.relevel i l).officeTime = s.officeTime ∧
      (s.relevel i l).sessions = s.sessions ∧
      (s.relevel i l).consoles = s.consoles ∧
      (s.relevel i l).clearances = s.clearances ∧
      (s.relevel i l).clearanceLock = s.clearanceLock ∧
      (s.relevel i l).auditFailure = s.auditFailure ∧
      (s.relevel i l).auditCountdown = s.auditCountdown ∧
      (s.relevel i l).lastAuditSum = s.lastAuditSum ∧
      (s.relevel i l).params = s.params ∧
      (s.relevel i l).masks = s.masks ∧
      (s.relevel i l).slot = s.slot ∧
      (s.relevel i l).round = s.round ∧
      (s.relevel i l).inFlight = s.inFlight ∧
      (s.relevel i l).ltx = s.ltx ∧
      (s.relevel i l).miso = s.miso ∧
      (s.relevel i l).pending = s.pending ∧
      (∀ j, (s.relevel i l).session j = s.session j) ∧
      (∀ j, (s.relevel i l).console j = s.console j) ∧
      (∀ j, (s.relevel i l).clearance j = s.clearance j) := by
  unfold State.relevel
  try dsimp only
  (repeat' split) <;> simp

@[simp] theorem relevelWork_frame (s : State) (h : Half) (k : Byte) :
      (relevelWork h k s).2.officeTime = s.officeTime ∧
      (relevelWork h k s).2.sessions = s.sessions ∧
      (relevelWork h k s).2.consoles = s.consoles ∧
      (relevelWork h k s).2.clearances = s.clearances ∧
      (relevelWork h k s).2.clearanceLock = s.clearanceLock ∧
      (relevelWork h k s).2.auditFailure = s.auditFailure ∧
      (relevelWork h k s).2.auditCountdown = s.auditCountdown ∧
      (relevelWork h k s).2.lastAuditSum = s.lastAuditSum ∧
      (relevelWork h k s).2.params = s.params ∧
      (relevelWork h k s).2.masks = s.masks ∧
      (relevelWork h k s).2.slot = s.slot ∧
      (relevelWork h k s).2.round = s.round ∧
      (relevelWork h k s).2.inFlight = s.inFlight ∧
      (relevelWork h k s).2.ltx = s.ltx ∧
      (relevelWork h k s).2.miso = s.miso ∧
      (relevelWork h k s).2.pending = s.pending ∧
      (∀ j, (relevelWork h k s).2.session j = s.session j) ∧
      (∀ j, (relevelWork h k s).2.console j = s.console j) ∧
      (∀ j, (relevelWork h k s).2.clearance j = s.clearance j) := by
  unfold relevelWork
  try dsimp only
  (repeat' split) <;> simp [refuse]

@[simp] theorem State.withdrawUncovered_frame (s : State) (t : TypistIx) :
      (s.withdrawUncovered t).officeTime = s.officeTime ∧
      (s.withdrawUncovered t).sessions = s.sessions ∧
      (s.withdrawUncovered t).consoles = s.consoles ∧
      (s.withdrawUncovered t).clearances = s.clearances ∧
      (s.withdrawUncovered t).clearanceLock = s.clearanceLock ∧
      (s.withdrawUncovered t).auditFailure = s.auditFailure ∧
      (s.withdrawUncovered t).auditCountdown = s.auditCountdown ∧
      (s.withdrawUncovered t).lastAuditSum = s.lastAuditSum ∧
      (s.withdrawUncovered t).params = s.params ∧
      (s.withdrawUncovered t).masks = s.masks ∧
      (s.withdrawUncovered t).slot = s.slot ∧
      (s.withdrawUncovered t).round = s.round ∧
      (s.withdrawUncovered t).inFlight = s.inFlight ∧
      (s.withdrawUncovered t).ltx = s.ltx ∧
      (s.withdrawUncovered t).miso = s.miso ∧
      (s.withdrawUncovered t).pending = s.pending ∧
      (∀ j, (s.withdrawUncovered t).session j = s.session j) ∧
      (∀ j, (s.withdrawUncovered t).console j = s.console j) ∧
      (∀ j, (s.withdrawUncovered t).clearance j = s.clearance j) := by
  unfold State.withdrawUncovered
  try dsimp only
  (repeat' split) <;> simp

@[simp] theorem State.setRatio_frame (s : State) (t : TypistIx) (b : Option Byte) :
      (s.setRatio t b).officeTime = s.officeTime ∧
      (s.setRatio t b).sessions = s.sessions ∧
      (s.setRatio t b).consoles = s.consoles ∧
      (s.setRatio t b).drops = s.drops ∧
      (s.setRatio t b).clearances = s.clearances ∧
      (s.setRatio t b).clearanceLock = s.clearanceLock ∧
      (s.setRatio t b).auditFailure = s.auditFailure ∧
      (s.setRatio t b).auditCountdown = s.auditCountdown ∧
      (s.setRatio t b).lastAuditSum = s.lastAuditSum ∧
      (s.setRatio t b).queue = s.queue ∧
      (s.setRatio t b).serialCounter = s.serialCounter ∧
      (s.setRatio t b).params = s.params ∧
      (s.setRatio t b).masks = s.masks ∧
      (s.setRatio t b).slot = s.slot ∧
      (s.setRatio t b).round = s.round ∧
      (s.setRatio t b).inFlight = s.inFlight ∧
      (s.setRatio t b).ltx = s.ltx ∧
      (s.setRatio t b).miso = s.miso ∧
      (s.setRatio t b).passDue = s.passDue ∧
      (s.setRatio t b).pending = s.pending ∧
      (∀ j, (s.setRatio t b).session j = s.session j) ∧
      (∀ j, (s.setRatio t b).console j = s.console j) ∧
      (∀ j, (s.setRatio t b).drop j = s.drop j) ∧
      (∀ j, (s.setRatio t b).clearance j = s.clearance j) := by
  unfold State.setRatio
  try dsimp only
  (repeat' split) <;> simp

@[simp] theorem State.applyTypist_frame (s : State) (t : TypistIx) (a b c : Option Byte) :
      (s.applyTypist t a b c).officeTime = s.officeTime ∧
      (s.applyTypist t a b c).sessions = s.sessions ∧
      (s.applyTypist t a b c).consoles = s.consoles ∧
      (s.applyTypist t a b c).clearanceLock = s.clearanceLock ∧
      (s.applyTypist t a b c).auditFailure = s.auditFailure ∧
      (s.applyTypist t a b c).auditCountdown = s.auditCountdown ∧
      (s.applyTypist t a b c).lastAuditSum = s.lastAuditSum ∧
      (s.applyTypist t a b c).params = s.params ∧
      (s.applyTypist t a b c).masks = s.masks ∧
      (s.applyTypist t a b c).slot = s.slot ∧
      (s.applyTypist t a b c).round = s.round ∧
      (s.applyTypist t a b c).inFlight = s.inFlight ∧
      (s.applyTypist t a b c).ltx = s.ltx ∧
      (s.applyTypist t a b c).miso = s.miso ∧
      (s.applyTypist t a b c).pending = s.pending ∧
      (∀ j, (s.applyTypist t a b c).session j = s.session j) ∧
      (∀ j, (s.applyTypist t a b c).console j = s.console j) := by
  unfold State.applyTypist
  try dsimp only
  (repeat' split) <;> simp

@[simp] theorem setTypistWork_frame (s : State) (n : Byte) (a b c : Option Byte) :
      (setTypistWork n a b c s).2.officeTime = s.officeTime ∧
      (setTypistWork n a b c s).2.sessions = s.sessions ∧
      (setTypistWork n a b c s).2.consoles = s.consoles ∧
      (setTypistWork n a b c s).2.clearanceLock = s.clearanceLock ∧
      (setTypistWork n a b c s).2.auditFailure = s.auditFailure ∧
      (setTypistWork n a b c s).2.auditCountdown = s.auditCountdown ∧
      (setTypistWork n a b c s).2.lastAuditSum = s.lastAuditSum ∧
      (setTypistWork n a b c s).2.params = s.params ∧
      (setTypistWork n a b c s).2.masks = s.masks ∧
      (setTypistWork n a b c s).2.slot = s.slot ∧
      (setTypistWork n a b c s).2.round = s.round ∧
      (setTypistWork n a b c s).2.inFlight = s.inFlight ∧
      (setTypistWork n a b c s).2.ltx = s.ltx ∧
      (setTypistWork n a b c s).2.miso = s.miso ∧
      (setTypistWork n a b c s).2.pending = s.pending ∧
      (∀ j, (setTypistWork n a b c s).2.session j = s.session j) ∧
      (∀ j, (setTypistWork n a b c s).2.console j = s.console j) := by
  unfold setTypistWork
  try dsimp only
  (repeat' split) <;> simp [refuse, refuseRaise]

@[simp] theorem setClockWork_frame (s : State) (v : Option Quad) :
      (setClockWork v s).2.takes = s.takes ∧
      (setClockWork v s).2.sessions = s.sessions ∧
      (setClockWork v s).2.drops = s.drops ∧
      (setClockWork v s).2.clearances = s.clearances ∧
      (setClockWork v s).2.clearanceLock = s.clearanceLock ∧
      (setClockWork v s).2.auditFailure = s.auditFailure ∧
      (setClockWork v s).2.auditCountdown = s.auditCountdown ∧
      (setClockWork v s).2.lastAuditSum = s.lastAuditSum ∧
      (setClockWork v s).2.queue = s.queue ∧
      (setClockWork v s).2.serialCounter = s.serialCounter ∧
      (setClockWork v s).2.params = s.params ∧
      (setClockWork v s).2.events = s.events ∧
      (setClockWork v s).2.masks = s.masks ∧
      (setClockWork v s).2.slot = s.slot ∧
      (setClockWork v s).2.round = s.round ∧
      (setClockWork v s).2.inFlight = s.inFlight ∧
      (setClockWork v s).2.ltx = s.ltx ∧
      (setClockWork v s).2.miso = s.miso ∧
      (setClockWork v s).2.passDue = s.passDue ∧
      (setClockWork v s).2.pending = s.pending ∧
      (∀ j, (setClockWork v s).2.take j = s.take j) ∧
      (∀ j, (setClockWork v s).2.session j = s.session j) ∧
      (∀ j, (setClockWork v s).2.drop j = s.drop j) ∧
      (∀ j, (setClockWork v s).2.clearance j = s.clearance j) := by
  unfold setClockWork
  try dsimp only
  (repeat' split) <;> simp

@[simp] theorem enableDropWork_frame (s : State) (n : Byte) :
      (enableDropWork n s).2.officeTime = s.officeTime ∧
      (enableDropWork n s).2.takes = s.takes ∧
      (enableDropWork n s).2.sessions = s.sessions ∧
      (enableDropWork n s).2.consoles = s.consoles ∧
      (enableDropWork n s).2.typists = s.typists ∧
      (enableDropWork n s).2.clearances = s.clearances ∧
      (enableDropWork n s).2.clearanceLock = s.clearanceLock ∧
      (enableDropWork n s).2.auditFailure = s.auditFailure ∧
      (enableDropWork n s).2.auditCountdown = s.auditCountdown ∧
      (enableDropWork n s).2.lastAuditSum = s.lastAuditSum ∧
      (enableDropWork n s).2.queue = s.queue ∧
      (enableDropWork n s).2.serialCounter = s.serialCounter ∧
      (enableDropWork n s).2.params = s.params ∧
      (enableDropWork n s).2.events = s.events ∧
      (enableDropWork n s).2.masks = s.masks ∧
      (enableDropWork n s).2.slot = s.slot ∧
      (enableDropWork n s).2.inFlight = s.inFlight ∧
      (enableDropWork n s).2.ltx = s.ltx ∧
      (enableDropWork n s).2.miso = s.miso ∧
      (enableDropWork n s).2.passDue = s.passDue ∧
      (enableDropWork n s).2.pending = s.pending ∧
      (∀ j, (enableDropWork n s).2.take j = s.take j) ∧
      (∀ j, (enableDropWork n s).2.session j = s.session j) ∧
      (∀ j, (enableDropWork n s).2.console j = s.console j) ∧
      (∀ j, (enableDropWork n s).2.typist j = s.typist j) ∧
      (∀ j, (enableDropWork n s).2.clearance j = s.clearance j) := by
  unfold enableDropWork
  try dsimp only
  (repeat' split) <;> simp [refuse]

@[simp] theorem disableDropWork_frame (s : State) (n : Byte) :
      (disableDropWork n s).2.officeTime = s.officeTime ∧
      (disableDropWork n s).2.clearances = s.clearances ∧
      (disableDropWork n s).2.clearanceLock = s.clearanceLock ∧
      (disableDropWork n s).2.auditFailure = s.auditFailure ∧
      (disableDropWork n s).2.auditCountdown = s.auditCountdown ∧
      (disableDropWork n s).2.lastAuditSum = s.lastAuditSum ∧
      (disableDropWork n s).2.params = s.params ∧
      (disableDropWork n s).2.masks = s.masks ∧
      (disableDropWork n s).2.slot = s.slot ∧
      (disableDropWork n s).2.ltx = s.ltx ∧
      (disableDropWork n s).2.miso = s.miso ∧
      (disableDropWork n s).2.pending = s.pending ∧
      (∀ j, (disableDropWork n s).2.clearance j = s.clearance j) := by
  unfold disableDropWork
  try dsimp only
  (repeat' split) <;> simp [refuse]

@[simp] theorem readDropWork_frame (s : State) (n : Byte) :
      (readDropWork n s).2.officeTime = s.officeTime ∧
      (readDropWork n s).2.takes = s.takes ∧
      (readDropWork n s).2.sessions = s.sessions ∧
      (readDropWork n s).2.consoles = s.consoles ∧
      (readDropWork n s).2.typists = s.typists ∧
      (readDropWork n s).2.drops = s.drops ∧
      (readDropWork n s).2.clearances = s.clearances ∧
      (readDropWork n s).2.clearanceLock = s.clearanceLock ∧
      (readDropWork n s).2.auditFailure = s.auditFailure ∧
      (readDropWork n s).2.auditCountdown = s.auditCountdown ∧
      (readDropWork n s).2.lastAuditSum = s.lastAuditSum ∧
      (readDropWork n s).2.queue = s.queue ∧
      (readDropWork n s).2.serialCounter = s.serialCounter ∧
      (readDropWork n s).2.params = s.params ∧
      (readDropWork n s).2.events = s.events ∧
      (readDropWork n s).2.masks = s.masks ∧
      (readDropWork n s).2.slot = s.slot ∧
      (readDropWork n s).2.round = s.round ∧
      (readDropWork n s).2.inFlight = s.inFlight ∧
      (readDropWork n s).2.ltx = s.ltx ∧
      (readDropWork n s).2.miso = s.miso ∧
      (readDropWork n s).2.passDue = s.passDue ∧
      (readDropWork n s).2.pending = s.pending ∧
      (∀ j, (readDropWork n s).2.take j = s.take j) ∧
      (∀ j, (readDropWork n s).2.session j = s.session j) ∧
      (∀ j, (readDropWork n s).2.console j = s.console j) ∧
      (∀ j, (readDropWork n s).2.typist j = s.typist j) ∧
      (∀ j, (readDropWork n s).2.drop j = s.drop j) ∧
      (∀ j, (readDropWork n s).2.clearance j = s.clearance j) := by
  unfold readDropWork
  try dsimp only
  (repeat' split) <;> simp [refuse]

@[simp] theorem State.recomputeAll_frame (s : State) (l : List TakeIx) :
      (l.foldl State.recompute s).officeTime = s.officeTime ∧
      (l.foldl State.recompute s).sessions = s.sessions ∧
      (l.foldl State.recompute s).consoles = s.consoles ∧
      (l.foldl State.recompute s).typists = s.typists ∧
      (l.foldl State.recompute s).drops = s.drops ∧
      (l.foldl State.recompute s).clearances = s.clearances ∧
      (l.foldl State.recompute s).clearanceLock = s.clearanceLock ∧
      (l.foldl State.recompute s).auditFailure = s.auditFailure ∧
      (l.foldl State.recompute s).auditCountdown = s.auditCountdown ∧
      (l.foldl State.recompute s).lastAuditSum = s.lastAuditSum ∧
      (l.foldl State.recompute s).queue = s.queue ∧
      (l.foldl State.recompute s).serialCounter = s.serialCounter ∧
      (l.foldl State.recompute s).params = s.params ∧
      (l.foldl State.recompute s).masks = s.masks ∧
      (l.foldl State.recompute s).slot = s.slot ∧
      (l.foldl State.recompute s).round = s.round ∧
      (l.foldl State.recompute s).inFlight = s.inFlight ∧
      (l.foldl State.recompute s).ltx = s.ltx ∧
      (l.foldl State.recompute s).miso = s.miso ∧
      (l.foldl State.recompute s).passDue = s.passDue ∧
      (l.foldl State.recompute s).pending = s.pending ∧
      (∀ j, (l.foldl State.recompute s).session j = s.session j) ∧
      (∀ j, (l.foldl State.recompute s).console j = s.console j) ∧
      (∀ j, (l.foldl State.recompute s).typist j = s.typist j) ∧
      (∀ j, (l.foldl State.recompute s).drop j = s.drop j) ∧
      (∀ j, (l.foldl State.recompute s).clearance j = s.clearance j) := by
  induction l generalizing s with
  | nil => simp
  | cons e es ih => simp [ih]

@[simp] theorem State.officeRatioChanged_frame (s : State) :
      (s.officeRatioChanged).officeTime = s.officeTime ∧
      (s.officeRatioChanged).sessions = s.sessions ∧
      (s.officeRatioChanged).consoles = s.consoles ∧
      (s.officeRatioChanged).typists = s.typists ∧
      (s.officeRatioChanged).drops = s.drops ∧
      (s.officeRatioChanged).clearances = s.clearances ∧
      (s.officeRatioChanged).clearanceLock = s.clearanceLock ∧
      (s.officeRatioChanged).auditFailure = s.auditFailure ∧
      (s.officeRatioChanged).auditCountdown = s.auditCountdown ∧
      (s.officeRatioChanged).lastAuditSum = s.lastAuditSum ∧
      (s.officeRatioChanged).serialCounter = s.serialCounter ∧
      (s.officeRatioChanged).params = s.params ∧
      (s.officeRatioChanged).masks = s.masks ∧
      (s.officeRatioChanged).slot = s.slot ∧
      (s.officeRatioChanged).round = s.round ∧
      (s.officeRatioChanged).inFlight = s.inFlight ∧
      (s.officeRatioChanged).ltx = s.ltx ∧
      (s.officeRatioChanged).miso = s.miso ∧
      (s.officeRatioChanged).pending = s.pending ∧
      (∀ j, (s.officeRatioChanged).session j = s.session j) ∧
      (∀ j, (s.officeRatioChanged).console j = s.console j) ∧
      (∀ j, (s.officeRatioChanged).typist j = s.typist j) ∧
      (∀ j, (s.officeRatioChanged).drop j = s.drop j) ∧
      (∀ j, (s.officeRatioChanged).clearance j = s.clearance j) := by
  unfold State.officeRatioChanged
  try dsimp only
  simp

@[simp] theorem State.parameterTold_frame (s : State) (n m : Nat) :
      (s.parameterTold n m).officeTime = s.officeTime ∧
      (s.parameterTold n m).sessions = s.sessions ∧
      (s.parameterTold n m).consoles = s.consoles ∧
      (s.parameterTold n m).clearances = s.clearances ∧
      (s.parameterTold n m).clearanceLock = s.clearanceLock ∧
      (s.parameterTold n m).serialCounter = s.serialCounter ∧
      (s.parameterTold n m).params = s.params ∧
      (s.parameterTold n m).masks = s.masks ∧
      (s.parameterTold n m).slot = s.slot ∧
      (s.parameterTold n m).round = s.round ∧
      (s.parameterTold n m).inFlight = s.inFlight ∧
      (s.parameterTold n m).ltx = s.ltx ∧
      (s.parameterTold n m).miso = s.miso ∧
      (s.parameterTold n m).pending = s.pending ∧
      (∀ j, (s.parameterTold n m).session j = s.session j) ∧
      (∀ j, (s.parameterTold n m).console j = s.console j) ∧
      (∀ j, (s.parameterTold n m).clearance j = s.clearance j) := by
  unfold State.parameterTold
  try dsimp only
  (repeat' split) <;> simp

@[simp] theorem setParamWork_frame (s : State) (n : Byte) (v : Quad) :
      (setParamWork n v s).2.officeTime = s.officeTime ∧
      (setParamWork n v s).2.sessions = s.sessions ∧
      (setParamWork n v s).2.consoles = s.consoles ∧
      (setParamWork n v s).2.clearances = s.clearances ∧
      (setParamWork n v s).2.clearanceLock = s.clearanceLock ∧
      (setParamWork n v s).2.serialCounter = s.serialCounter ∧
      (setParamWork n v s).2.masks = s.masks ∧
      (setParamWork n v s).2.slot = s.slot ∧
      (setParamWork n v s).2.round = s.round ∧
      (setParamWork n v s).2.inFlight = s.inFlight ∧
      (setParamWork n v s).2.ltx = s.ltx ∧
      (setParamWork n v s).2.miso = s.miso ∧
      (setParamWork n v s).2.pending = s.pending ∧
      (∀ j, (setParamWork n v s).2.session j = s.session j) ∧
      (∀ j, (setParamWork n v s).2.console j = s.console j) ∧
      (∀ j, (setParamWork n v s).2.clearance j = s.clearance j) := by
  unfold setParamWork
  try dsimp only
  (repeat' split) <;> simp [refuse]

@[simp] theorem readParamWork_frame (s : State) (n : Byte) :
      (readParamWork n s).2.officeTime = s.officeTime ∧
      (readParamWork n s).2.takes = s.takes ∧
      (readParamWork n s).2.sessions = s.sessions ∧
      (readParamWork n s).2.consoles = s.consoles ∧
      (readParamWork n s).2.typists = s.typists ∧
      (readParamWork n s).2.drops = s.drops ∧
      (readParamWork n s).2.clearances = s.clearances ∧
      (readParamWork n s).2.clearanceLock = s.clearanceLock ∧
      (readParamWork n s).2.auditFailure = s.auditFailure ∧
      (readParamWork n s).2.auditCountdown = s.auditCountdown ∧
      (readParamWork n s).2.lastAuditSum = s.lastAuditSum ∧
      (readParamWork n s).2.queue = s.queue ∧
      (readParamWork n s).2.serialCounter = s.serialCounter ∧
      (readParamWork n s).2.params = s.params ∧
      (readParamWork n s).2.events = s.events ∧
      (readParamWork n s).2.masks = s.masks ∧
      (readParamWork n s).2.slot = s.slot ∧
      (readParamWork n s).2.round = s.round ∧
      (readParamWork n s).2.inFlight = s.inFlight ∧
      (readParamWork n s).2.ltx = s.ltx ∧
      (readParamWork n s).2.miso = s.miso ∧
      (readParamWork n s).2.passDue = s.passDue ∧
      (readParamWork n s).2.pending = s.pending ∧
      (∀ j, (readParamWork n s).2.take j = s.take j) ∧
      (∀ j, (readParamWork n s).2.session j = s.session j) ∧
      (∀ j, (readParamWork n s).2.console j = s.console j) ∧
      (∀ j, (readParamWork n s).2.typist j = s.typist j) ∧
      (∀ j, (readParamWork n s).2.drop j = s.drop j) ∧
      (∀ j, (readParamWork n s).2.clearance j = s.clearance j) := by
  unfold readParamWork
  try dsimp only
  (repeat' split) <;> simp [refuse]

@[simp] theorem readEventsWork_frame (s : State) :
      (readEventsWork s).2.officeTime = s.officeTime ∧
      (readEventsWork s).2.takes = s.takes ∧
      (readEventsWork s).2.sessions = s.sessions ∧
      (readEventsWork s).2.consoles = s.consoles ∧
      (readEventsWork s).2.typists = s.typists ∧
      (readEventsWork s).2.drops = s.drops ∧
      (readEventsWork s).2.clearances = s.clearances ∧
      (readEventsWork s).2.clearanceLock = s.clearanceLock ∧
      (readEventsWork s).2.auditFailure = s.auditFailure ∧
      (readEventsWork s).2.auditCountdown = s.auditCountdown ∧
      (readEventsWork s).2.lastAuditSum = s.lastAuditSum ∧
      (readEventsWork s).2.queue = s.queue ∧
      (readEventsWork s).2.serialCounter = s.serialCounter ∧
      (readEventsWork s).2.params = s.params ∧
      (readEventsWork s).2.events = s.events ∧
      (readEventsWork s).2.masks = s.masks ∧
      (readEventsWork s).2.slot = s.slot ∧
      (readEventsWork s).2.round = s.round ∧
      (readEventsWork s).2.inFlight = s.inFlight ∧
      (readEventsWork s).2.ltx = s.ltx ∧
      (readEventsWork s).2.miso = s.miso ∧
      (readEventsWork s).2.passDue = s.passDue ∧
      (readEventsWork s).2.pending = s.pending ∧
      (∀ j, (readEventsWork s).2.take j = s.take j) ∧
      (∀ j, (readEventsWork s).2.session j = s.session j) ∧
      (∀ j, (readEventsWork s).2.console j = s.console j) ∧
      (∀ j, (readEventsWork s).2.typist j = s.typist j) ∧
      (∀ j, (readEventsWork s).2.drop j = s.drop j) ∧
      (∀ j, (readEventsWork s).2.clearance j = s.clearance j) := by
  unfold readEventsWork
  try dsimp only
  simp

@[simp] theorem clearEventsWork_frame (s : State) (n : Half) :
      (clearEventsWork n s).2.officeTime = s.officeTime ∧
      (clearEventsWork n s).2.takes = s.takes ∧
      (clearEventsWork n s).2.sessions = s.sessions ∧
      (clearEventsWork n s).2.consoles = s.consoles ∧
      (clearEventsWork n s).2.typists = s.typists ∧
      (clearEventsWork n s).2.drops = s.drops ∧
      (clearEventsWork n s).2.clearances = s.clearances ∧
      (clearEventsWork n s).2.clearanceLock = s.clearanceLock ∧
      (clearEventsWork n s).2.auditFailure = s.auditFailure ∧
      (clearEventsWork n s).2.auditCountdown = s.auditCountdown ∧
      (clearEventsWork n s).2.lastAuditSum = s.lastAuditSum ∧
      (clearEventsWork n s).2.queue = s.queue ∧
      (clearEventsWork n s).2.serialCounter = s.serialCounter ∧
      (clearEventsWork n s).2.params = s.params ∧
      (clearEventsWork n s).2.masks = s.masks ∧
      (clearEventsWork n s).2.slot = s.slot ∧
      (clearEventsWork n s).2.round = s.round ∧
      (clearEventsWork n s).2.inFlight = s.inFlight ∧
      (clearEventsWork n s).2.ltx = s.ltx ∧
      (clearEventsWork n s).2.miso = s.miso ∧
      (clearEventsWork n s).2.passDue = s.passDue ∧
      (clearEventsWork n s).2.pending = s.pending ∧
      (∀ j, (clearEventsWork n s).2.take j = s.take j) ∧
      (∀ j, (clearEventsWork n s).2.session j = s.session j) ∧
      (∀ j, (clearEventsWork n s).2.console j = s.console j) ∧
      (∀ j, (clearEventsWork n s).2.typist j = s.typist j) ∧
      (∀ j, (clearEventsWork n s).2.drop j = s.drop j) ∧
      (∀ j, (clearEventsWork n s).2.clearance j = s.clearance j) := by
  simp [clearEventsWork, State.take, State.session, State.console, State.typist, State.drop, State.clearance]

@[simp] theorem setMaskWork_frame (s : State) (n : Half) :
      (setMaskWork n s).2.officeTime = s.officeTime ∧
      (setMaskWork n s).2.takes = s.takes ∧
      (setMaskWork n s).2.sessions = s.sessions ∧
      (setMaskWork n s).2.consoles = s.consoles ∧
      (setMaskWork n s).2.typists = s.typists ∧
      (setMaskWork n s).2.drops = s.drops ∧
      (setMaskWork n s).2.clearances = s.clearances ∧
      (setMaskWork n s).2.clearanceLock = s.clearanceLock ∧
      (setMaskWork n s).2.auditFailure = s.auditFailure ∧
      (setMaskWork n s).2.auditCountdown = s.auditCountdown ∧
      (setMaskWork n s).2.lastAuditSum = s.lastAuditSum ∧
      (setMaskWork n s).2.queue = s.queue ∧
      (setMaskWork n s).2.serialCounter = s.serialCounter ∧
      (setMaskWork n s).2.params = s.params ∧
      (setMaskWork n s).2.events = s.events ∧
      (setMaskWork n s).2.slot = s.slot ∧
      (setMaskWork n s).2.round = s.round ∧
      (setMaskWork n s).2.inFlight = s.inFlight ∧
      (setMaskWork n s).2.ltx = s.ltx ∧
      (setMaskWork n s).2.miso = s.miso ∧
      (setMaskWork n s).2.passDue = s.passDue ∧
      (setMaskWork n s).2.pending = s.pending ∧
      (∀ j, (setMaskWork n s).2.take j = s.take j) ∧
      (∀ j, (setMaskWork n s).2.session j = s.session j) ∧
      (∀ j, (setMaskWork n s).2.console j = s.console j) ∧
      (∀ j, (setMaskWork n s).2.typist j = s.typist j) ∧
      (∀ j, (setMaskWork n s).2.drop j = s.drop j) ∧
      (∀ j, (setMaskWork n s).2.clearance j = s.clearance j) := by
  simp [setMaskWork, State.take, State.session, State.console, State.typist, State.drop, State.clearance]

@[simp] theorem clearCountsWork_frame (s : State) :
      (clearCountsWork s).2.officeTime = s.officeTime ∧
      (clearCountsWork s).2.sessions = s.sessions ∧
      (clearCountsWork s).2.consoles = s.consoles ∧
      (clearCountsWork s).2.clearances = s.clearances ∧
      (clearCountsWork s).2.clearanceLock = s.clearanceLock ∧
      (clearCountsWork s).2.auditFailure = s.auditFailure ∧
      (clearCountsWork s).2.auditCountdown = s.auditCountdown ∧
      (clearCountsWork s).2.lastAuditSum = s.lastAuditSum ∧
      (clearCountsWork s).2.queue = s.queue ∧
      (clearCountsWork s).2.serialCounter = s.serialCounter ∧
      (clearCountsWork s).2.params = s.params ∧
      (clearCountsWork s).2.events = s.events ∧
      (clearCountsWork s).2.masks = s.masks ∧
      (clearCountsWork s).2.slot = s.slot ∧
      (clearCountsWork s).2.round = s.round ∧
      (clearCountsWork s).2.inFlight = s.inFlight ∧
      (clearCountsWork s).2.ltx = s.ltx ∧
      (clearCountsWork s).2.miso = s.miso ∧
      (clearCountsWork s).2.passDue = s.passDue ∧
      (clearCountsWork s).2.pending = s.pending ∧
      (∀ j, (clearCountsWork s).2.session j = s.session j) ∧
      (∀ j, (clearCountsWork s).2.console j = s.console j) ∧
      (∀ j, (clearCountsWork s).2.clearance j = s.clearance j) := by
  simp [clearCountsWork, State.session, State.console, State.clearance]

@[simp] theorem State.read_frame (s : State) (n : Nat) :
      (s.read n).officeTime = s.officeTime ∧
      (s.read n).takes = s.takes ∧
      (s.read n).sessions = s.sessions ∧
      (s.read n).consoles = s.consoles ∧
      (s.read n).typists = s.typists ∧
      (s.read n).drops = s.drops ∧
      (s.read n).clearances = s.clearances ∧
      (s.read n).clearanceLock = s.clearanceLock ∧
      (s.read n).auditFailure = s.auditFailure ∧
      (s.read n).auditCountdown = s.auditCountdown ∧
      (s.read n).lastAuditSum = s.lastAuditSum ∧
      (s.read n).queue = s.queue ∧
      (s.read n).serialCounter = s.serialCounter ∧
      (s.read n).params = s.params ∧
      (s.read n).events = s.events ∧
      (s.read n).masks = s.masks ∧
      (s.read n).round = s.round ∧
      (s.read n).inFlight = s.inFlight ∧
      (s.read n).ltx = s.ltx ∧
      (s.read n).passDue = s.passDue ∧
      (s.read n).pending = s.pending ∧
      (∀ j, (s.read n).take j = s.take j) ∧
      (∀ j, (s.read n).session j = s.session j) ∧
      (∀ j, (s.read n).console j = s.console j) ∧
      (∀ j, (s.read n).typist j = s.typist j) ∧
      (∀ j, (s.read n).drop j = s.drop j) ∧
      (∀ j, (s.read n).clearance j = s.clearance j) := by
  unfold State.read
  try dsimp only
  (repeat' split) <;> simp [State.take, State.session, State.console, State.typist, State.drop, State.clearance]

@[simp] theorem State.write_frame (s : State) (bs : List Byte) :
      (s.write bs).officeTime = s.officeTime ∧
      (s.write bs).takes = s.takes ∧
      (s.write bs).sessions = s.sessions ∧
      (s.write bs).consoles = s.consoles ∧
      (s.write bs).typists = s.typists ∧
      (s.write bs).drops = s.drops ∧
      (s.write bs).clearances = s.clearances ∧
      (s.write bs).clearanceLock = s.clearanceLock ∧
      (s.write bs).auditFailure = s.auditFailure ∧
      (s.write bs).auditCountdown = s.auditCountdown ∧
      (s.write bs).lastAuditSum = s.lastAuditSum ∧
      (s.write bs).queue = s.queue ∧
      (s.write bs).serialCounter = s.serialCounter ∧
      (s.write bs).params = s.params ∧
      (s.write bs).masks = s.masks ∧
      (s.write bs).round = s.round ∧
      (s.write bs).inFlight = s.inFlight ∧
      (s.write bs).ltx = s.ltx ∧
      (s.write bs).passDue = s.passDue ∧
      (s.write bs).pending = s.pending ∧
      (∀ j, (s.write bs).take j = s.take j) ∧
      (∀ j, (s.write bs).session j = s.session j) ∧
      (∀ j, (s.write bs).console j = s.console j) ∧
      (∀ j, (s.write bs).typist j = s.typist j) ∧
      (∀ j, (s.write bs).drop j = s.drop j) ∧
      (∀ j, (s.write bs).clearance j = s.clearance j) := by
  unfold State.write
  try dsimp only
  (repeat' split) <;> simp [State.take, State.session, State.console, State.typist, State.drop, State.clearance]

@[simp] theorem State.transaction_frame (s : State) (bs : List Byte) :
      (s.transaction bs).officeTime = s.officeTime ∧
      (s.transaction bs).takes = s.takes ∧
      (s.transaction bs).sessions = s.sessions ∧
      (s.transaction bs).consoles = s.consoles ∧
      (s.transaction bs).typists = s.typists ∧
      (s.transaction bs).drops = s.drops ∧
      (s.transaction bs).clearances = s.clearances ∧
      (s.transaction bs).clearanceLock = s.clearanceLock ∧
      (s.transaction bs).auditFailure = s.auditFailure ∧
      (s.transaction bs).auditCountdown = s.auditCountdown ∧
      (s.transaction bs).lastAuditSum = s.lastAuditSum ∧
      (s.transaction bs).queue = s.queue ∧
      (s.transaction bs).serialCounter = s.serialCounter ∧
      (s.transaction bs).params = s.params ∧
      (s.transaction bs).masks = s.masks ∧
      (s.transaction bs).round = s.round ∧
      (s.transaction bs).inFlight = s.inFlight ∧
      (s.transaction bs).ltx = s.ltx ∧
      (s.transaction bs).passDue = s.passDue ∧
      (s.transaction bs).pending = s.pending ∧
      (∀ j, (s.transaction bs).take j = s.take j) ∧
      (∀ j, (s.transaction bs).session j = s.session j) ∧
      (∀ j, (s.transaction bs).console j = s.console j) ∧
      (∀ j, (s.transaction bs).typist j = s.typist j) ∧
      (∀ j, (s.transaction bs).drop j = s.drop j) ∧
      (∀ j, (s.transaction bs).clearance j = s.clearance j) := by
  unfold State.transaction
  try dsimp only
  (repeat' split) <;> simp

end Sys2Proof.Machine
end

