-- ==== Sys2Proof/Laws/Placement.lean ====
section
/-! SUPPORT. The pass's tests of a typist say what R107 and R117 say: each is true exactly where the conditions
that the claims write out hold. -/

namespace Sys2Proof.Machine

/-- A queue without a hand-off message holds no OFFER, SWITCH, WITHDRAW or RESUME (9.5). -/
theorem no_handOff_iff (q : List Message) :
    q.any Message.isHandOff = false ↔ (∀ o, .offer o ∉ q) ∧ (∀ o h, .switch o h ∉ q) ∧
      (∀ hs, .withdraw hs ∉ q) ∧ ∀ h p k, .resume h p k ∉ q := by
  simp only [List.any_eq_false]
  refine ⟨fun h => ⟨fun _ m => h _ m rfl, fun _ _ m => h _ m rfl, fun _ m => h _ m rfl,
    fun _ _ _ m => h _ m rfl⟩, ?_⟩
  rintro ⟨ho, hs, hw, hr⟩ (_ | _ | _ | _ | _ | _) m
  · exact nofun
  · exact (ho _ m).elim
  · exact (hs _ _ m).elim
  · exact (hw _ m).elim
  · exact (hr _ _ _ m).elim
  · exact nofun

/-- A qualification set covers another where it has every qualification of it. -/
theorem Quals.covers_iff (q need : Quals) :
    q.covers need = true ↔ (need.interp = true → q.interp = true) ∧
      (need.expert = true → q.expert = true) ∧ (need.multiParty = true → q.multiParty = true) ∧
      (need.capital = true → q.capital = true) := by
  simp only [Quals.covers, Bool.and_eq_true, Bool.or_eq_true, Bool.not_eq_true', and_assoc]
  cases need.interp <;> cases need.expert <;> cases need.multiParty <;> cases need.capital <;> simp

/-- The clearance for an offer is the typist's own, or 0 while an audit failure stands (R107, R135). -/
theorem State.effective_top (s : State) (d : DropIx) :
    s.effective d 3 = if s.auditFailure = true then 0 else s.clearance d := by
  unfold State.effective
  split
  · rfl
  · exact min_eq_left (Fin.le_last (s.clearance d))

/-- `mayHear` is the four conditions that R107 and R117 share. -/
theorem State.mayHear_iff (s : State) (n : TypistIx) (i : TakeIx) :
    s.mayHear n (s.take i) = true ↔ s.mayBeOffered n i := by
  simp only [State.mayHear, State.mayBeOffered, State.handOffWaits, State.effective_top,
    Bool.and_eq_true, Bool.not_eq_true', decide_eq_true_eq, no_handOff_iff, Quals.covers_iff, and_assoc,
    List.contains_eq_mem, decide_eq_false_iff_not]

/-- `eligible` is R107. -/
theorem State.eligible_iff (s : State) (n : TypistIx) (i : TakeIx) :
    s.eligible n (s.take i) = true ↔ s.eligibleFor n i := by
  simp only [State.eligible, State.eligibleFor, Bool.and_eq_true, decide_eq_true_eq, Bool.not_eq_true',
    State.mayHear_iff, and_assoc]

/-- `candidate` is R117. -/
theorem State.candidate_iff (s : State) (n : TypistIx) (i j : TakeIx) :
    s.candidate (s.take i) n = some j ↔ s.candidateFor n i j := by
  simp only [State.candidate, State.candidateFor, ← State.mayHear_iff]
  by_cases h : (s.typist n).state = .working <;> by_cases ha : (s.typist n).away = true <;>
    by_cases hp : (s.typist n).parked = none <;> by_cases hm : s.mayHear n (s.take i) = true <;>
    simp [h, ha, hp, hm, Option.filter_eq_some_iff]

end Sys2Proof.Machine
end

