-- ==== Sys2Proof/Tests/Slice0.lean ====
section
/-!
SUPPORT. Tests of single steps on small states, with the expected values worked by hand from the manual's
rules and examples, and a witness for the hypotheses of every obligation that has some.
-/

namespace Sys2Proof.Tests

open Sys2Proof.Machine

set_option Elab.async false

/-! ## Small states -/

/-- A property of the state that a command works on: the state with a triggered pass taken. -/
abbrev onSettled (s : State) (p : State → Prop) : Prop := p s.settled

/-- What the next state shows. -/
def see {α : Type} (o : Host.Outcome State Fault Refusal) (f : State → α) : Option α :=
  match o with
  | .next t => some (f t)
  | .fault _ | .refused _ => none

/-- The response that waits at the port. -/
def response (s : State) : Option Answer :=
  match s.slot with
  | .responseWaiting a => some a
  | .empty | .inProgress _ => none

/-- A drop that is PRESENT with an empty queue. -/
def here : Drop := { Drop.reset with state := .present }

/-- An office at second 100: drops 1, 25 and 26 PRESENT, session 0 with the id 7 BOUND to console 1, typists
1 and 2 IDLE with clearance 3 and every qualification. -/
def office : State :=
  { State.reset with
    officeTime := 100
    drops := ((State.reset.drops.set 0 here).set 24 here).set 25 here
    clearances := ((State.reset.clearances.set 0 2).set 24 3).set 25 3
    consoles := State.reset.consoles.set 0 { Console.reset with bound := some 0 }
    sessions := State.reset.sessions.set 0
      { Session.freed with
        id := some 7, console := some 0, state := .bound, level := some 1, cls := some .ordinary
        allowance := some 600, nextSequence := some 1, sessionEnd := some 0 }
    typists := (State.reset.typists.set 0
      { Typist.reset with
        clearance := 3, quals := ⟨true, true, true, true⟩, state := .idle, idleSince := some 50 }).set 1
      { Typist.reset with
        clearance := 3, quals := ⟨true, true, true, true⟩, state := .idle, idleSince := some 60 } }

/-- A take of session 0: length 1000, typed-to 200, deadline 5000, and so, at ratio 64, latest start 4680. -/
def takeIn (st : TakeState) (t : Option TypistIx) : Take :=
  { Take.freeAt 0 with
    state := st, session := some 0, sequence := some 1, sessionStart := some 0, console := some 0
    length := 1000, typedTo := 200, level := 1, cls := some .ordinary, deadline := some 5000
    latestStart := some 4680, status := .onTime, serial := some 0, typist := t }

/-- The office with slot 0 holding a take that session 0 lists. -/
def withTake (k : Take) : State :=
  { office with
    takes := office.takes.set 0 k
    sessions := office.sessions.set 0 { office.session 0 with takes := [0], nextSequence := some 2 }
    serialCounter := 1 }

/-- Session 0 records take 0/0, 500 tenths long. -/
def recording : State :=
  { office with
    takes := office.takes.set 0
      { Take.freeAt 0 with
        state := .opened, session := some 0, sequence := some 1, sessionStart := some 0
        console := some 0, length := 500, level := 1, cls := some .ordinary }
    sessions := office.sessions.set 0
      { office.session 0 with
        state := .recording, takes := [0], openTake := some 0, nextSequence := some 2 } }

/-- Take 0/0 waits in the hand-off queue, and no typist is signed on. -/
def waiting : State :=
  { withTake (takeIn .closed none) with
    queue := [⟨0, .ordinary, 4680, 0, false⟩]
    typists := State.reset.typists.set 0 { Typist.reset with clearance := 3 } }

/-- Take 0/0 is offered to typist 1. -/
def offered : State :=
  { withTake (takeIn .offered (some 0)) with
    typists := office.typists.set 0
      { office.typist 0 with
        state := .offered, pending := some ⟨0, .offer⟩, offerTimer := some 30, idleSince := none } }

/-- The working context on take 0/0. -/
def context : Context := ⟨300, 0, 90, 200, 95, 0⟩

/-- Typist 1 types take 0/0. -/
def typing : State :=
  { withTake (takeIn .typing (some 0)) with
    typists := office.typists.set 0
      { office.typist 0 with
        state := .working, current := some 0, idleSince := none, context := some context } }

/-- Typist 1 types take 0/0 and holds a SWITCH to the RUSH take 1/0. -/
def switching : State :=
  { typing with
    takes := typing.takes.set 1 { takeIn .offered (some 0) with cls := some .rush, sequence := some 2 }
    typists := typing.typists.set 0
      { typing.typist 0 with
        state := .switching, pending := some ⟨1, .switch⟩, offerTimer := some 30 } }

/-- Typist 1 types take 1/0, whose level is 2, with take 0/0 parked. -/
def parking : State :=
  { typing with
    takes := (typing.takes.set 0
      { takeIn .parked (some 0) with package := some ⟨300, 0, 90, 200, 0⟩ }).set 1
        { takeIn .typing (some 0) with level := 2, cls := some .rush, sequence := some 2 }
    typists := typing.typists.set 0
      { typing.typist 0 with current := some 1, parked := some 0 } }

/-- Take 0/0 has been returned by typist 1. -/
def returned : State :=
  withTake { takeIn .returned (some 0) with typedTo := 1000, latestStart := none, status := .noStatus }

/-- Take 0/0 is certified. -/
def certified : State :=
  withTake { takeIn .certified (some 0) with typedTo := 1000, latestStart := none, status := .noStatus }

/-- An OPEN query in the list of a returned take. -/
def query : Mark := ⟨5, 250, .query, none, none, 1, .typist 0, some .raised, false⟩

/-- Take 0/0 has been returned with an open query. -/
def queried : State :=
  withTake
    { takeIn .returned (some 0) with
      latestStart := none, status := .noStatus, marks := [query], openQueries := 1 }

/-- A poll transaction under way with a drop that the round has passed. -/
def polled (d : DropIx) (s : State) : State := { s with round := some 70, inFlight := some ⟨d, 1000⟩ }

/-- A drop changed. -/
def dropped (d : DropIx) (f : Drop → Drop) (s : State) : State := s.modDrop d f

/-! ## Well-formed commands -/

/-- A RESET pulse of 9 microseconds lies outside the operating conditions (R169). -/
theorem test_ill_formed_reset : (Instr.reset (.pin 9)).wellFormed = false := by decide

/-- A pulse of 10 microseconds is taken (R169). -/
theorem test_well_formed_reset : (Instr.reset (.pin 10)).wellFormed = true := by decide

/-- A reply without a byte is no reply. -/
theorem test_ill_formed_reply : (Instr.goodReply []).wellFormed = false := by decide

/-- A label of 256 characters has no length byte, whichever request carries it (R166). -/
theorem test_ill_formed_labels :
    let l : Option Text := some (List.replicate 256 0x41#8)
    (Instr.markTake 0 0 9 0 none l).wellFormed = false ∧ (Instr.sealTake 0 1 l).wellFormed = false ∧
      (Instr.unsealTake 0 l).wellFormed = false ∧
      (Instr.raiseQuery 0 0 none none l).wellFormed = false ∧
      (Instr.resolveQuery .host 0 0 l).wellFormed = false := by decide +kernel

/-- A label of 255 characters is well formed. -/
theorem test_well_formed_label :
    (Instr.sealTake 0 1 (some (List.replicate 255 0x41#8))).wellFormed = true := by decide +kernel

/-- RESOLVE is no request of a typist's, LIST none of the host's (R57, R59). -/
theorem test_ill_formed_askers :
    (Instr.resolveQuery (.typist 0) 0 0 none).wellFormed = false ∧
      (Instr.listMarks .host 0 0 none).wellFormed = false := by decide

/-- A transaction clocks in at least one byte (R158). -/
theorem test_ill_formed_transactions :
    (Instr.requestFrame []).wellFormed = false ∧ (Instr.spiRead 0).wellFormed = false := by decide

/-! ## Reading and writing bytes -/

/-- Take 163/5 is 0AA3h and take 40/2 is 0428h (R166). -/
theorem test_handles :
    Handle.toNat ⟨163, 5⟩ = 0x0AA3 ∧ Handle.toNat ⟨40, 2⟩ = 0x0428 ∧
      Handle.ofHalf 0x0AA3 = ⟨163, 5⟩ ∧ Handle.ofHalf 0x0428 = ⟨40, 2⟩ := by decide

/-- Over the nine characters 31h to 39h the register ends at 29B1h (R167). -/
theorem test_frame_check :
    crc [0x31#8, 0x32#8, 0x33#8, 0x34#8, 0x35#8, 0x36#8, 0x37#8, 0x38#8, 0x39#8] = 0x29B1#16 := by
  decide +kernel

/-- The request summary gives SET-PARAM code 02h, its number 1 byte and its value 4 bytes (10.2, R166). -/
theorem test_decode_set_param :
    Decode.hostRequest 0x02 [9, 0, 0, 1, 0] = .request (.setParam 9 256) := by decide

/-- A console's MARK is a handle, a kind, an offset and two optional fields (R48, R166). -/
theorem test_decode_mark :
    Decode.consoleRequest 0 0x04 [0x0A, 0xA3, 9, 0, 100, 0, 1, 1, 0x41] =
      .request (.markTake 0 0x0AA3 9 100 none (some [0x41])) := by decide

/-- A typist's ACCEPT is a handle, and a byte too many does not fit its code (R110, R167). -/
theorem test_decode_accept :
    Decode.typistRequest 3 0x28 [0x04, 0x28] = .request (.acceptOffer 3 0x0428) ∧
      Decode.typistRequest 3 0x28 [0x04, 0x28, 0] = .malformed := by decide

/-- No row of the table gives bits. -/
theorem test_no_table_word : decodeTableWord 16 5 = none := by decide

/-! ## One step of each command -/

/-- RESET gives office time 0; a pulse of 9 microseconds faults (R169). -/
theorem test_reset :
    see (exec (.reset .powerOn) typing) (·.officeTime) = some 0 ∧
      exec (.reset (.pin 9)) typing = .fault .resetPulseTooShort := by
  exact ⟨by decide +kernel, rfl⟩

/-- A tick raises office time and lowers an offer timer (R87, R112). -/
theorem test_office_tick :
    see (exec .officeTick offered) (fun t => (t.officeTime, (t.typist 0).offerTimer)) =
      some (101, some 29) := by decide +kernel

/-- 4.3: an active second of typing counts; 5.7.1: a take goes AT-RISK at its latest start less 900 (R73,
R98). -/
theorem test_office_tick_monitor :
    see (exec .officeTick { typing with officeTime := 3779 })
      (fun t => ((t.take 0).status, t.flagSet .atRisk, ((t.typist 0).context.map (·.work)))) =
      some (.atRisk, true, some 90) := by decide +kernel

/-- An offer that runs out counts and excludes its typist (R112). -/
theorem test_offer_timer_expiry :
    see (exec .offerTimerExpiry (offered.modTypist 0 (fun r => { r with offerTimer := some 0 })))
      (fun t => ((t.take 0).state, (t.take 0).exclusion, (t.typist 0).offersMissed)) =
      some (.closed, [0], 1) := by decide +kernel

/-- A typist whose grace has run out is signed off (R83). -/
theorem test_typist_grace_expiry :
    see (exec .typistGraceExpiry (typing.modTypist 0 (fun r => { r with away := true, grace := some 0 })))
      (fun t => ((t.typist 0).state, (t.take 0).state, (t.take 0).typedTo, t.flagSet .typistLost)) =
      some (.off, .closed, 200, true) := by decide +kernel

/-- A console whose grace has run out is cut short at its held length (R38). -/
theorem test_console_grace_expiry :
    see (exec .consoleGraceExpiry (recording.modConsole 0 (fun k => { k with grace := some 0 })))
      (fun t => ((t.take 0).state, (t.take 0).length, (t.take 0).flags.cutShort,
        (t.session 0).sessionEnd)) = some (.closed, 500, true, some 500) := by decide +kernel

/-- 600 tenths are expected of 60 seconds with a tolerance of 12: 588 passes and 587 fails (R40). -/
theorem test_drift_window_check :
    let at_ (code : Nat) : State := recording.modConsole 0 (fun k =>
      { k with window := some ⟨40, 0⟩, lastCode := some code })
    see (exec .driftWindowCheck (at_ 588)) (fun t => (t.console 0).drift) = some .inStep ∧
      see (exec .driftWindowCheck (at_ 587)) (fun t => (t.console 0).drift) = some .drift := by
  decide +kernel

/-- Clearances 2 at drop 1 and 3 at drops 25 and 26 sum to 155, which is not the expected 0 (R142). -/
theorem test_audit_countdown_expiry :
    see (exec .auditCountdownExpiry { office with auditCountdown := some 0 })
      (fun t => (t.lastAuditSum, t.auditFailure, t.auditCountdown, t.flagSet .auditFail)) =
      some (155, true, some 60, true) := by decide +kernel

/-- A triggered pass offers the waiting take to the typist idle longest (R108). -/
theorem test_placement_pass :
    see (exec .placementPass { waiting with typists := office.typists, passDue := true })
      (fun t => ((t.take 0).state, (t.take 0).typist, (t.typist 0).offerTimer, t.queue)) =
      some (.offered, some 0, some 30, []) := by decide +kernel

/-- A round begins at the lowest drop that is due (R148). -/
theorem test_poll_round :
    see (exec .pollRound (dropped 0 (fun r => { r with state := .absent, rollCall := some 3 }) office))
      (fun t => (t.round, (t.drop 0).rollCall)) = some (some 24, some 2) := by decide +kernel

/-- The frame to drop 1 of a bound console without an open take begins 01h, 01h, 0007h (11.2). -/
theorem test_poll_transaction :
    see (exec .pollTransaction { office with round := some 0 })
      (fun t => (t.ltx.take 4, t.ltx.length, t.inFlight, t.round)) =
      some ([1, 1, 0, 7], 12, some ⟨0, 1000⟩, some 1) := by decide +kernel

/-- The third miss makes a drop ABSENT (R150). -/
theorem test_reply_miss :
    see (exec .replyMiss (polled 0 (dropped 0 (fun r => { r with misses := 2 }) office)))
      (fun t => ((t.drop 0).state, (t.drop 0).misses, (t.drop 0).rollCall, t.flagSet .dropAbsent)) =
      some (.absent, 0, some 15, true) := by decide +kernel

/-- A time code of 600 lengthens the open take (R35), and the OPEN that the reply carries is answered
WRONG-STATE (R32, R152). -/
theorem test_good_reply :
    see (exec (.goodReply (replyFrame 0 ⟨1, 600, [1]⟩)) (polled 0 recording))
      (fun t => ((t.take 0).length, (t.console 0).lastCode, (t.answerAt 0).map Answer.status)) =
      some (600, some 600, some .wrongState) := by decide +kernel

/-- A position of 400 passes the mark at 350, which is sent on as a CUE (R70). -/
theorem test_good_reply_cues :
    see (exec (.goodReply (replyFrame 24 ⟨1, 400, []⟩)) (polled 24 (typing.modTake 0 (fun k =>
        { k with marks := [{ query with offset := 350, kind := .note, query := none }] }))))
      (fun t => ((t.typist 0).context.map (fun c => (c.position, c.cursor)),
        (t.drop 24).out.map Message.isCue)) = some (some (400, 1), [true]) := by decide +kernel

/-- OPEN takes the lowest FREE slot (R4, R32). -/
theorem test_open :
    see (exec (.openTake 0) office)
      (fun t => ((t.take 0).state, (t.take 0).level, (t.session 0).openTake, (t.answerAt 0).map Answer.fields))
      = some (.opened, 1, some 0, some [.handle ⟨0, 0⟩]) := by decide +kernel

/-- 5.7.3: a rush at close at second 30000 with length 2400 and allowance 14400. -/
theorem test_close_rush :
    see (exec (.closeTake 0 2400)
        ({ recording.modTake 0 (fun k => { k with rushPending := true }) with officeTime := 30000 }.modSession
          0 (fun r => { r with allowance := some 14400 })))
      (fun t => ((t.take 0).deadline, (t.take 0).latestStart, (t.take 0).status, t.flagSet .atRisk)) =
      some (some 31800, some 30840, .atRisk, true) := by decide +kernel

/-- ROLL carries an open span into the next take (R54, R55). -/
theorem test_roll :
    see (exec (.rollTake 0 800) (recording.modTake 0 (fun k => { k with openSpan := some 2, level := 2 })))
      (fun t => ((t.take 0).state, (t.take 0).length, (t.take 1).openSpan, (t.take 1).sessionStart)) =
      some (.closed, 800, some 2, some 800) := by decide +kernel

/-- MARK with an offset above the held length is clamped to it (R47). -/
theorem test_mark :
    see (exec (.markTake 0 0 3 900 (some 255) none) recording)
      (fun t => ((t.take 0).marks.map (fun m => (m.offset, m.speaker)),
        (t.answerAt 0).map Answer.clamped)) = some ([(500, some 254)], some true) := by decide +kernel

/-- SEAL at level 0 is clamped to 1 with CLAMPED, and at 2 raises the take (R49). -/
theorem test_seal :
    see (exec (.sealTake 0 2 none) recording) (fun t => ((t.take 0).openSpan, (t.take 0).level)) =
        some (some 2, 2) ∧
      see (exec (.sealTake 0 0 none) recording)
        (fun t => ((t.take 0).openSpan, (t.answerAt 0).map Answer.clamped)) =
        some (some 1, some true) := by decide +kernel

/-- UNSEAL closes the span and keeps the take level (R50). -/
theorem test_unseal :
    see (exec (.unsealTake 0 none)
        (recording.modTake 0 (fun k => { k with openSpan := some 2, level := 2 })))
      (fun t => ((t.take 0).openSpan, (t.take 0).level, (t.take 0).marks.map Mark.kind)) =
      some (none, 2, [.sealEnd]) := by decide +kernel

/-- RESOLVE lowers the open-query count (R57). -/
theorem test_resolve :
    see (exec (.resolveQuery .host 0 5 none) queried)
      (fun t => ((t.take 0).openQueries, (t.take 0).marks.map Mark.query)) =
      some (0, [some .resolved]) := by decide +kernel

/-- LIST of the session's own take counts one mark and none remaining (R59). -/
theorem test_list :
    see (exec (.listMarks (.console 0) 0 0 none) queried)
      (fun t => (t.answerAt 0).map (fun a => (a.status, a.fields.head?, a.fields.getLast?))) =
      some (some (.ok, some (.small 1), some (.small 0))) := by decide +kernel

/-- LOCATE of a kind that no take holds answers NOT-FOUND with the present end (R126). -/
theorem test_locate :
    see (exec (.locateMark 0 (some 3) none none none false) recording)
      (fun t => (t.answerAt 0).map (fun a => (a.status, a.fields))) =
      some (some (.notFound, [.quad 500])) := by decide +kernel

/-- Of two bookmarks of the console that a close has made identical, LOCATE finds the later one and reports
that one as the bookmark; nothing is stored (R33, R127). -/
theorem test_locate_own_bookmark :
    let own (id : MarkId) : Mark := ⟨id, 250, .bookmark, none, none, 1, .console 0, none, false⟩
    see (exec (.locateMark 0 none none (some 5000) none true)
        (queried.modTake 0 (fun k => { k with marks := [own 3, own 7] })))
      (fun t => ((t.take 0).marks.map Mark.id, (t.answerAt 0).map (fun a =>
        (a.own, a.fields.drop 9)))) = some ([3, 7], some (false, [.present, .half 7])) := by
  decide +kernel

/-- RUSH of a CLOSED take: 100 + 1800 is before its deadline (R90, R130). -/
theorem test_rush :
    see (exec (.rushTake 0 0) waiting)
      (fun t => ((t.take 0).cls, (t.take 0).deadline, (t.take 0).latestStart)) =
      some (some .rush, some 1900, some 1580) := by decide +kernel

/-- PROBE of a console bound to the take's session: exists, heard, may be changed (R137). -/
theorem test_probe :
    see (exec (.probeTake (.console 0) 0 none) waiting) (fun t => (t.answerAt 0).map Answer.fields) =
      some (some [.small 7]) := by decide +kernel

/-- SIGN-ON makes an OFF typist IDLE and triggers a pass (R65). -/
theorem test_sign_on :
    see (exec (.signOn 0) waiting) (fun t => ((t.typist 0).state, (t.typist 0).idleSince, t.passDue)) =
      some (.idle, some 100, true) := by decide +kernel

/-- SIGN-OFF gives the current take up (R66). -/
theorem test_sign_off :
    see (exec (.signOff 0) typing)
      (fun t => ((t.typist 0).state, (t.take 0).state, (t.answerAt 24).map Answer.fields)) =
      some (.off, .closed, some [.absent, .present, .handle ⟨0, 0⟩, .absent]) := by decide +kernel

/-- 5.7.1: a checkpoint at 1800 of a take of length 9000 and deadline 50000, from base 1200 and 270 work
seconds at ratio 64. -/
theorem test_checkpoint :
    see (exec (.checkpoint 0 0 1800)
        ({ typing.modTake 0 (fun k => { k with length := 9000, typedTo := 1200, deadline := some 50000 }) with
          officeTime := 46000 }.modTypist 0 (fun r =>
            { r with context := some ⟨1200, 0, 270, 1200, 46000, 0⟩ })))
      (fun t => ((t.typist 0).ratio, (t.take 0).typedTo, (t.take 0).latestStart,
        (t.typist 0).context.map (fun c => (c.base, c.work)))) =
      some (66, 1800, some 47030, some (1800, 0)) := by decide +kernel

/-- QUERY without an offset lies at the position (R76). -/
theorem test_query :
    see (exec (.raiseQuery 0 0 none none none) typing)
      (fun t => ((t.take 0).marks.map (fun m => (m.offset, m.query)), (t.take 0).openQueries,
        t.flagSet .queryRaised)) = some ([(300, some .raised)], 1, true) := by decide +kernel

/-- 90 work seconds over an advance of 800 give a sample of 18 and the ratio 53 (R100, R101). -/
theorem test_done :
    see (exec (.doneTake 0 0) typing)
      (fun t => ((t.take 0).state, (t.take 0).typedTo, (t.typist 0).ratio, (t.typist 0).state)) =
      some (.returned, 1000, 53, .idle) := by decide +kernel

/-- RELEASE of the rush take resumes the parked one (R10, R79, R122). -/
theorem test_release :
    see (exec (.releaseTake 0 1) parking)
      (fun t => ((t.take 1).state, (t.take 0).state, (t.typist 0).current, (t.typist 0).ratio)) =
      some (.closed, .typing, some 0, 64) := by decide +kernel

/-- The RESUME of a return that waits unsent gives way to the RESUME that follows the ANSWER of a DONE (R82,
R122, R153). -/
theorem test_done_resumes :
    let cue : Message := .cue ⟨⟨9, 0⟩, 1, query⟩
    see (exec (.doneTake 0 1) (dropped 24 (fun r => { r with out := [.resume ⟨1, 0⟩ 300 0, cue] }) parking))
      (fun t => ((t.drop 24).out.map Message.kindCode, (t.drop 24).out.drop 1)) =
      some ([1, 5, 6], [.resume ⟨0, 0⟩ 300 0, cue]) := by decide +kernel

/-- ACCEPT of a SWITCH parks the take that was current (R119). -/
theorem test_accept :
    see (exec (.acceptOffer 0 1) switching)
      (fun t => ((t.take 1).state, (t.take 0).state, (t.typist 0).parked,
        (t.take 0).package.map Package.position)) = some (.typing, .parked, some 0, some 300) := by
  decide +kernel

/-- DECLINE excludes its typist (R111). -/
theorem test_decline :
    see (exec (.declineOffer 0 0) offered)
      (fun t => ((t.take 0).state, (t.take 0).exclusion, (t.typist 0).state, (t.typist 0).offersMissed)) =
      some (.closed, [0], .idle, 0) := by decide +kernel

/-- A frame of READ-EVENTS is in progress; one whose length is wrong is answered UNKNOWN (R158, R168). -/
theorem test_request_frame :
    see (exec (.requestFrame [0, 3, 0x1A]) office) (·.slot) = some (.inProgress .readEvents) ∧
      see (exec (.requestFrame [0, 4, 0x1A]) office) (fun t => (response t).map Answer.status) =
        some (some .unknown) := by decide +kernel

/-- A read of the whole response of LOCK-CLEARANCE empties the slot (R159, R168). -/
theorem test_spi_read :
    see (exec (.spiRead 6) { office with slot := .responseWaiting ⟨0x0A, .ok, false, false, false, []⟩ })
      (fun t => (t.miso, t.slot)) = some ([0, 5, 0x0A, 0, 0, 0xFF], .empty) := by decide +kernel

/-- SET-CLOCK moves a stamp with the clock, held at 0 (R74, R88). -/
theorem test_set_clock :
    see (exec (.setClock (some 40)) office) (fun t => (t.officeTime, (t.typist 0).idleSince)) =
      some (40, some 0) := by decide +kernel

/-- SET-PARAM of the roll-call divisor to 4 lowers a count of 15 to 3 (R148, R161). -/
theorem test_set_param :
    see (exec (.setParam 12 4) (dropped 1 (fun r => { r with state := .absent, rollCall := some 15 }) office))
      (fun t => (t.params.rollCallDivisor, (t.drop 1).rollCall)) = some (4, some 3) := by decide +kernel

/-- A write of the audit interval with the countdown at 0 comes after the audit that is due, whose sum is
2 × 1 + 3 × 25 + 3 × 26 (R142, R161; log entry 3). -/
theorem test_set_param_audit :
    see (exec (.setParam 9 30) { office with auditCountdown := some 0 })
      (fun t => (t.lastAuditSum, t.auditFailure, t.auditCountdown)) = some (155, true, some 30) := by
  decide +kernel

/-- READ-PARAM of the audit expected value (R162). -/
theorem test_read_param :
    see (exec (.readParam 10) office) (fun t => (response t).map Answer.fields) =
      some (some [.small 10, .quad 0, .half 0, .flag false, .flag false]) := by decide +kernel

/-- ENABLE-DROP makes drop 3 PRESENT and a round runs (R146, R148). -/
theorem test_enable_drop :
    see (exec (.enableDrop 3) office) (fun t => ((t.drop 2).state, t.round)) =
      some (.present, some 0) := by decide +kernel

/-- DISABLE-DROP of a recording console cuts its take short (R38, R147). -/
theorem test_disable_drop :
    see (exec (.disableDrop 1) recording)
      (fun t => ((t.drop 0).state, (t.take 0).state, (t.take 0).flags.cutShort, (t.console 0).bound)) =
      some (.disabled, .closed, true, some 0) := by decide +kernel

/-- READ-DROP of drop 25 begins with the role 1 and the state 1 (R156, R166). -/
theorem test_read_drop :
    see (exec (.readDrop 25) office) (fun t => (response t).map (fun a => a.fields.take 3)) =
      some (some [.small 1, .small 1, .small 0]) := by decide +kernel

/-- SET-TYPIST to clearance 0 withdraws a current take of level 1 (R136, R139). -/
theorem test_set_typist :
    see (exec (.setTypist 1 (some 0) none none) typing)
      (fun t => ((t.take 0).state, (t.typist 0).state, t.clearance 24)) =
      some (.closed, .idle, 0) := by decide +kernel

/-- READ-TYPIST of typist 1 (R86). -/
theorem test_read_typist :
    see (exec (.readTypist 1) office) (fun t => (response t).map (fun a => a.fields.take 5)) =
      some (some [.small 1, .small 1, .small 3, .small 15, .small 64]) := by decide +kernel

/-- SET-CONSOLE under the lock may not raise a clearance (R141). -/
theorem test_set_console :
    see (exec (.setConsole 1 3) { office with clearanceLock := true })
      (fun t => (t.clearance 0, (response t).map Answer.status)) = some (2, some .guarded) := by
  decide +kernel

/-- A clearance of 4 is brought to 3, with CLAMPED, before the lock refuses it (R138, R139). -/
theorem test_guarded_clamped :
    let s : State := { (office.modTypist 0 (fun r => { r with clearance := 2 })) with
      clearanceLock := true, clearances := office.clearances.set 24 2 }
    let told (o : Host.Outcome State Fault Refusal) :=
      see o (fun t => (response t).map (fun a => (a.status, a.clamped)))
    told (exec (.setConsole 1 4) s) = some (some (.guarded, true)) ∧
      told (exec (.setConsole 1 3) s) = some (some (.guarded, false)) ∧
      told (exec (.setTypist 1 (some 4) none none) s) = some (some (.guarded, true)) := by decide +kernel

/-- LOCK-CLEARANCE sets the lock (R141). -/
theorem test_lock_clearance :
    see (exec .lockClearance office) (·.clearanceLock) = some true := by decide +kernel

/-- OPEN-SESSION takes the lowest FREE record (R27). -/
theorem test_open_session :
    see (exec (.openSession 9 2 4 1 700000 0) office)
      (fun t => ((t.session 1).id, (t.session 1).level, (t.session 1).allowance, (t.console 1).bound)) =
      some (some 9, some 3, some 604800, some 1) := by decide +kernel

/-- END-SESSION closes an open take at its held length (R28). -/
theorem test_end_session :
    see (exec (.endSession 7) recording)
      (fun t => ((t.session 0).state, (t.take 0).state, (t.console 0).bound,
        (response t).map Answer.fields)) = some (.ended, .closed, none, some [.quad 500]) := by
  decide +kernel

/-- READ-SESSION begins with the record's index, the id and the console (R29). -/
theorem test_read_session :
    see (exec (.readSession 7) office) (fun t => (response t).map (fun a => a.fields.take 3)) =
      some (some [.small 0, .half 7, .small 1]) := by decide +kernel

/-- READ-TAKE begins with the handle, the state and the session id (R19). -/
theorem test_read_take :
    see (exec (.readTake 0) typing) (fun t => (response t).map (fun a => a.fields.take 3)) =
      some (some [.handle ⟨0, 0⟩, .small 4, .half 7]) := by decide +kernel

/-- SCAN-TAKES for TYPING takes that are ON-TIME (R20). -/
theorem test_scan_takes :
    see (exec (.scanTakes 0 0x10 0x01) typing) (fun t => (response t).map Answer.fields) =
      some (some [.half 0, .small 0, .small 4, .small 0]) := by decide +kernel

/-- 5.7.1: deadline 53000 with a work estimate of 2970 gives the latest start 50030 (R91). -/
theorem test_set_deadline :
    see (exec (.setDeadline 0 53000)
        ({ typing.modTake 0 (fun k => { k with length := 9000, typedTo := 1800 }) with
          officeTime := 47100 }.modTypist 0 (fun r => { r with ratio := 66 })))
      (fun t => ((t.take 0).latestStart, (t.take 0).status)) = some (some 50030, .onTime) := by
  decide +kernel

/-- SET-CLASS keeps the deadline (R92). -/
theorem test_set_class :
    see (exec (.setClass 0 2) waiting)
      (fun t => ((t.take 0).cls, (t.take 0).deadline, t.queue.map QueueEntry.cls)) =
      some (some .daily, some 5000, [.daily]) := by decide +kernel

/-- RELEVEL above the holder's clearance withdraws the take (R140). -/
theorem test_relevel :
    see (exec (.relevel 0 2) (typing.modTypist 0 (fun r => { r with clearance := 1 })))
      (fun t => ((t.take 0).level, (t.take 0).state, (t.typist 0).state)) =
      some (2, .closed, .idle) := by decide +kernel

/-- RELEVEL of an OPEN take leaves the level shown at 1; it is byte 8 of the status block. With SEAL-MARK-LOST the
level shown is the take level (R52, R140, R155; log entry 30). -/
theorem test_relevel_level_shown :
    see (exec (.relevel 0 3) recording)
      (fun t => ((t.take 0).level, (t.statusBlock 0)[7]?)) = some (3, some 1) ∧
    see (exec (.relevel 0 3) (recording.modTake 0 (fun k =>
      { k with flags := { k.flags with sealMarkLost := true } })))
      (fun t => ((t.take 0).level, (t.statusBlock 0)[7]?)) = some (3, some 3) := by decide +kernel

/-- WITHDRAW of an OFFERED take keeps its serial (R8, R21). -/
theorem test_withdraw :
    see (exec (.withdrawTake 0) offered)
      (fun t => ((t.take 0).state, (t.take 0).serial, (t.typist 0).state)) =
      some (.closed, some 0, .idle) := by decide +kernel

/-- R22: a take of length 6000 and deadline 44400, requeued at 4500 under office ratio 64, has the latest
start 43800. -/
theorem test_requeue :
    see (exec (.requeueTake 0 4500)
        (returned.modTake 0 (fun k => { k with length := 6000, typedTo := 6000, deadline := some 44400 })))
      (fun t => ((t.take 0).state, (t.take 0).typedTo, (t.take 0).latestStart)) =
      some (.closed, 4500, some 43800) := by decide +kernel

/-- CERTIFY with an open query is answered QUERIES-OPEN (R23). -/
theorem test_certify :
    see (exec (.certifyTake 0) queried) (fun t => ((t.take 0).state, (response t).map Answer.status)) =
        some (.returned, some .queriesOpen) ∧
      see (exec (.certifyTake 0) returned) (fun t => (t.take 0).state) = some .certified := by
  decide +kernel

/-- RETIRE advances the generation, from 127 to 0 (R3, R24). -/
theorem test_retire :
    see (exec (.retireTake 0) certified) (fun t => ((t.take 0).state, (t.take 0).gen)) =
        some (.free, 1) ∧
      see (exec (.retireTake 0xFE00) (certified.modTake 0 (fun k => { k with gen := 127 })))
        (fun t => ((t.take 0).state, (t.take 0).gen)) = some (.free, 0) := by decide +kernel

/-- READ-MARKS shows the mark, none remaining, the count and the open queries (R60). -/
theorem test_read_marks :
    see (exec (.readMarks 0 0) queried) (fun t => (response t).map (fun a => a.fields.head?)) =
      some (some (some (.small 1))) := by decide +kernel

/-- READ-EVENTS answers the flags and the masks (R164). -/
theorem test_read_events :
    see (exec .readEvents { office with events := 0x0006 }) (fun t => (response t).map Answer.fields) =
      some (some [.half 6, .half 0]) := by decide +kernel

/-- CLEAR-EVENTS leaves a flag not selected; bit 14 is beyond the flags (R164). -/
theorem test_clear_events :
    see (exec (.clearEvents 0x4002) { office with events := 0x0006 })
      (fun t => (t.events, (response t).map Answer.clamped)) = some (4, some true) := by decide +kernel

/-- A mask of 1 keeps its flag from ATTN (R163). -/
theorem test_set_mask :
    see (exec (.setMask 0x0006) { office with events := 0x0006 }) (fun t => (t.masks, t.attn)) =
      some (6, false) := by decide +kernel

/-- CLEAR-COUNTS (R165). -/
theorem test_clear_counts :
    see (exec .clearCounts (dropped 3 (fun r => { r with linkErrors := 9 }) office))
      (fun t => (t.drop 3).linkErrors) = some 0 := by decide +kernel

/-- R153: OFFER and then an ANSWER reach a queue of four CUEs A to D; OFFER, ANSWER, C, D are left and two
CUEs are counted. -/
theorem test_outbound_queue :
    let cue (n : Nat) : Message := .cue ⟨⟨0, 0⟩, n, query⟩
    let s := (dropped 24 (fun r => { r with out := [cue 1, cue 2, cue 3, cue 4] }) typing)
    let o : Message := .offer ⟨⟨9, 0⟩, 0, .rush, .empty, 1, 0, 1, 1, .onTime, 30⟩
    let a : Message := .answer ⟨0x23, .ok, false, false, false, []⟩
    let t := (s.queueControl 24 o).queueControl 24 a
    (t.drop 24).out = [o, a, cue 3, cue 4] ∧ (t.typist 0).cuesDropped = 2 := by decide +kernel



/-! ## Witnesses

Each theorem meets the hypotheses of the statement that it is named after, with concrete values, at the
bounds of their ranges where a clause has some. -/

/-- Two commands wait. -/
theorem witness_StepTakesTheFrontCommand :
    ({ office with pending := [.officeTick, .readEvents] } : State).pending = [.officeTick, .readEvents] ∧
      State.reset.pending = [] := by decide +kernel

/-- A pulse of 9 microseconds is too short, one of 10 is not. -/
theorem witness_EveryCommandIsCarriedOut :
    (∃ us, Instr.reset (.pin 9) = .reset (.pin us) ∧ us < 10) ∧
      (∀ us, Instr.reset (.pin 10) = .reset (.pin us) → 10 ≤ us) ∧
      ∀ us, Instr.officeTick = .reset (.pin us) → 10 ≤ us :=
  ⟨⟨9, rfl, by decide⟩, fun us h => by cases h; decide, fun us h => by cases h⟩

/-- The shortest pulse. -/
theorem witness_ResetGivesTheResetState : 10 ≤ 10 := by decide

/-- The port is ready on an EMPTY slot and on one IN-PROGRESS with the request; a set flag stays over a
request that is no CLEAR-EVENTS. -/
theorem witness_EventFlags :
    office.hostReady .readEvents ∧ office.hostReady (.clearEvents 0xFFFF) ∧ office.hostReady (.setMask 0x4000) ∧
      ({ office with slot := .inProgress (.setMask 1) } : State).hostReady (.setMask 1) ∧
      see (exec .readEvents { office with events := 1 }) (·.flagSet .returned) = some true ∧
      Instr.isReset .readEvents = false ∧ ({ office with events := 1 } : State).flagSet .returned = true := by
  decide +kernel

/-- Numbers below, within and above 1..12. -/
theorem witness_ReadParam : ∀ n ∈ [0, 1, 9, 10, 12, 13, 255], office.hostReady (.readParam n) := by
  decide +kernel

/-- Numbers below, within and above 1..12; the present value, one under its range and one over it. -/
theorem witness_SetParam :
    (∀ n ∈ [0, 1, 2, 9, 11, 12, 13], office.hostReady (.setParam n 64)) ∧
      office.hostReady (.setParam 3 4) ∧ office.hostReady (.setParam 12 65) ∧
      office.settled.params.get 1 = 64 ∧ office.settled.auditCountdown ≠ some 0 := by
  decide +kernel

/-- The countdown at 0 and at 60; a failure that begins, over an offer of level 1, a SWITCH of level 1 and an
offer of level 0; one that ends. -/
theorem witness_AuditIsTaken :
    office.hostReady (.setParam 10 70000) ∧ office.hostReady (.setParam 10 155) ∧
      office.settled.auditCountdown = some 60 ∧
      ({ offered with auditCountdown := some 0 } : State).hostReady (.setParam 9 3601) ∧
      onSettled { offered with auditCountdown := some 0 } (fun u =>
        u.auditCountdown = some 0 ∧ u.auditFailure = false ∧ (u.typist 0).pending = some ⟨0, .offer⟩ ∧
        0 < (u.take 0).level ∧ u.clearance 0 ≠ 0 ∧ u.params.auditExpected = 0) ∧
      onSettled (offered.modTake 0 (fun k => { k with level := 0 })) (fun u => (u.take 0).level = 0) ∧
      ({ switching with auditCountdown := some 0 } : State).hostReady (.setParam 10 154) ∧
      onSettled { switching with auditCountdown := some 0 } (fun u => u.auditFailure = false ∧
        (u.typist 0).pending = some ⟨1, .switch⟩ ∧ 0 < (u.take 1).level ∧ (u.typist 0).current ≠ none ∧
        (u.drop (typistDrop 0)).state = .present ∧ (u.typist 1).pending = none ∧
        ((List.finRange 72).map (fun d => (u.clearance d).val * (d.val + 1))).sum = 155) ∧
      onSettled { office with auditFailure := true } (fun u => u.auditFailure = true ∧
        ((List.finRange 72).map (fun d => (u.clearance d).val * (d.val + 1))).sum = 155) := by
  decide +kernel

/-- The port is ready. -/
theorem witness_ClearCounts : office.hostReady .clearCounts := by decide +kernel

/-- A read of one byte, with and without a response. -/
theorem witness_SpiRead :
    0 < 1 ∧ office.slot = .empty ∧
      ({ office with slot := .responseWaiting ⟨1, .ok, false, false, false, []⟩ } : State).slot =
        .responseWaiting ⟨1, .ok, false, false, false, []⟩ := by decide +kernel

/-- Frames of two, three and four bytes. -/
theorem witness_RequestFrameJudged :
    office.slot = .empty ∧
      ∀ bytes ∈ [[0, 2], [0, 3, 0x1A], [0, 4, 0x1A], [0, 4, 0x03, 9]],
        bytes.any (· ≠ 0xFF#8) = true := by decide +kernel

/-- A busy slot and an EMPTY one. -/
theorem witness_BusySlotIsAnOverrun :
    ([0, 3, 0x1A] : List Byte).any (· ≠ 0xFF#8) = true ∧ office.slot = .empty ∧
      ({ office with slot := .inProgress .readEvents } : State).slot ≠ .empty := by decide +kernel

/-- No timer stands at 0, and a drift window has run 59 seconds. -/
theorem witness_OfficeTick :
    onSettled (recording.modConsole 0 (fun k => { k with window := some ⟨41, 0⟩ })) (fun u =>
      (∀ n, (u.typist n).offerTimer ≠ some 0 ∧ (u.typist n).grace ≠ some 0) ∧
        (∀ c, (u.console c).grace ≠ some 0 ∧
          ∀ w ∈ (u.console c).window, u.officeTime < w.startSecond + 60) ∧
        u.auditCountdown ≠ some 0) := by decide +kernel

/-- The port is ready for both forms. -/
theorem witness_SetClock :
    office.hostReady (.setClock none) ∧ office.hostReady (.setClock (some 0)) ∧
      office.hostReady (.setClock (some 4294967295)) := by decide +kernel

/-- A timer at 0 of the only typist with a pending take, which holds no current one; one of a typist that
holds a SWITCH over its current take; the other typists' timers are not at 0. -/
theorem witness_OfferTimerExpiry :
    onSettled (offered.modTypist 0 (fun r => { r with offerTimer := some 0 })) (fun u =>
        (u.typist 0).offerTimer = some 0 ∧ (u.typist 0).pending = some ⟨0, .offer⟩ ∧
        (u.typist 0).current = none ∧ (u.typist 1).offerTimer ≠ some 0 ∧
        ∀ m, m ≠ 0 → (u.typist m).pending = none) ∧
      onSettled (switching.modTypist 0 (fun r => { r with offerTimer := some 0 })) (fun u =>
        (u.typist 0).offerTimer = some 0 ∧ (u.typist 0).pending = some ⟨1, .switch⟩ ∧
        (u.typist 0).current ≠ none) := by decide +kernel

/-- A typist whose grace stands at 0 holds a current take. Who holds what being as it should is met in
`witness_TypistGraceExpiry_holdLaw`. -/
theorem witness_TypistGraceExpiry :
    onSettled (typing.modTypist 0 (fun r => { r with away := true, grace := some 0 })) (fun u =>
      (u.typist 0).grace = some 0 ∧ (u.typist 0).current = some 0 ∧ (u.typist 1).grace ≠ some 0 ∧
      (u.typist 0).parked ≠ some 1) := by decide +kernel

/-- The hold law on a state, in a form that is quick to decide. -/
theorem holdLaw_of (s : State)
    (h1 : ∀ i, (s.take i).state ∈ [.offered, .typing, .parked] →
      ∃ n, (s.take i).typist = some n ∧
        ((s.take i).state = .offered → (s.typist n).pending.map Pending.take = some i) ∧
        ((s.take i).state = .typing → (s.typist n).current = some i) ∧
        ((s.take i).state = .parked → (s.typist n).parked = some i))
    (h2 : ∀ n, (∀ i ∈ (s.typist n).pending.map Pending.take,
        (s.take i).state = .offered ∧ (s.take i).typist = some n) ∧
      (∀ i ∈ (s.typist n).current, (s.take i).state = .typing ∧ (s.take i).typist = some n) ∧
      (∀ i ∈ (s.typist n).parked, (s.take i).state = .parked ∧ (s.take i).typist = some n))
    (h3 : ∀ n, (s.typist n).shape)
    (h4 : ∀ i, (s.take i).state = .closed ↔ i ∈ s.queue.map QueueEntry.take)
    (h5 : (s.queue.map QueueEntry.take).Nodup)
    (h6 : ∀ x, (s.session x).state = .recording →
      ∃ i ∈ (s.session x).openTake, (s.take i).state = .opened ∧ (s.take i).session = some x)
    (h7 : ∀ i, (s.take i).state = .opened → ∃ x ∈ (s.take i).session,
      (s.session x).openTake = some i ∧ (s.session x).state = .recording) : s.holdLaw := by
  refine ⟨fun i h => ?_, fun i h => ?_, fun i h => ?_, fun n i h => (h2 n).1 i h,
    fun n i h => (h2 n).2.1 i h, fun n i h => (h2 n).2.2 i h, h3, fun i => (h4 i).trans (by simp), h5,
    h6, h7⟩ <;> obtain ⟨n, hn, a, b, c⟩ := h1 i (by simp [h])
  exacts [⟨n, hn, a h⟩, ⟨n, hn, b h⟩, ⟨n, hn, c h⟩]

/-- A typist that is OFF or IDLE and holds nothing has the shape of its state. -/
theorem shape_of_free (r : Typist)
    (h : (r.state = .off ∨ r.state = .idle) ∧ r.current = none ∧ r.parked = none ∧ r.pending = none) :
    r.shape := by
  obtain ⟨h | h, a, b, c⟩ := h <;> simp [Typist.shape, h, a, b, c]

/-- The grace of console 1 stands at 0 while its session records, and so does that of console 2, which is
unbound. -/
def graceOver : State :=
  (recording.modConsole 0 (fun k => { k with grace := some 0 })).modConsole 1 (fun k =>
    { k with grace := some 0 })

/-- The open take of `recording`. -/
def openTake : Take :=
  { Take.freeAt 0 with
    state := .opened, session := some 0, sequence := some 1, sessionStart := some 0
    console := some 0, length := 500, level := 1, cls := some .ordinary }

theorem graceOver_take (i : TakeIx) : graceOver.take i = if i = 0 then openTake else Take.freeAt 0 := by
  have h : graceOver.takes = (Vector.replicate 512 (Take.freeAt 0)).set 0 openTake := rfl
  unfold State.take
  rw [h]
  by_cases hi : i = 0
  · subst hi; simp
  · have : (0 : Nat) ≠ i.val := fun e => hi (Fin.ext e.symm)
    simp [hi, this]

theorem graceOver_typists : ∀ n,
    ((graceOver.typist n).state = .off ∨ (graceOver.typist n).state = .idle) ∧
      (graceOver.typist n).current = none ∧ (graceOver.typist n).parked = none ∧
      (graceOver.typist n).pending = none := by decide +kernel

theorem graceOver_sessions : ∀ x, (graceOver.session x).state = .recording →
    (graceOver.session x).openTake = some 0 ∧ x = 0 := by decide +kernel

theorem graceOver_holdLaw : graceOver.holdLaw := by
  have q : graceOver.queue = [] := rfl
  have z : openTake.state = .opened ∧ openTake.session = some 0 := by decide
  have f : (Take.freeAt 0).state = .free := rfl
  refine holdLaw_of graceOver (fun i h => ?_) (fun n => ?_)
    (fun n => shape_of_free _ (graceOver_typists n)) (fun i => ?_) (by simp [q]) (fun x h => ?_)
    (fun i h => ?_)
  · rw [graceOver_take] at h
    split at h <;> simp [z, f] at h
  · simp [graceOver_typists n]
  · rw [graceOver_take, q]
    split <;> simp [z, f]
  · obtain ⟨a, rfl⟩ := graceOver_sessions x h
    exact ⟨0, a, by simp [graceOver_take, z]⟩
  · rw [graceOver_take] at h ⊢
    split at h
    · subst_vars
      exact ⟨0, by simp [z], by decide +kernel⟩
    · simp [f] at h

theorem graceOver_bindingLaw : graceOver.bindingLaw := by
  intro c x h
  have := (by decide +kernel : ∀ c, ∀ x ∈ (graceOver.console c).bound,
    (graceOver.session x).console = some c ∧
      ((graceOver.session x).state = .bound ∨ (graceOver.session x).state = .recording))
  exact this c x h

/-- No pass is due, so the state a command works on is the state itself. -/
theorem settled_of_not_due {s : State} (h : s.passDue = false) : s.settled = s := by
  simp [State.settled, h]

/-- The laws hold, the timer of console 1 stands at 0 and its session records; the timer of console 2, which is
unbound, stands at 0, and that of console 3 does not. -/
theorem witness_ConsoleGraceExpiry :
    graceOver.settled.bindingLaw ∧ graceOver.settled.holdLaw ∧
      onSettled graceOver (fun u => (u.console 0).grace = some 0 ∧ (u.console 1).grace = some 0 ∧
        (u.console 1).bound = none ∧ (u.console 2).grace ≠ some 0 ∧
        (u.console 0).bound = some 0 ∧ (u.session 0).state = .recording ∧
        (u.session 0).openTake = some 0) := by
  refine ⟨?_, ?_, by decide +kernel⟩ <;> rw [settled_of_not_due (by decide +kernel)]
  exacts [graceOver_bindingLaw, graceOver_holdLaw]

/-- Windows that have run exactly 60 seconds, one with a code 13 under ten tenths a second and one with a
code 12 under; a console without a window. -/
theorem witness_DriftWindowCheck :
    let at_ (code : Nat) : State := recording.modConsole 0 (fun k =>
      { k with window := some ⟨40, 0⟩, lastCode := some code })
    onSettled (at_ 587) (fun u => (u.console 0).window = some ⟨40, 0⟩ ∧ 40 + 60 ≤ u.officeTime ∧
        (10 * (u.officeTime - 40) * u.params.driftPerMille + 999) / 1000 < 10 * (u.officeTime - 40) - 587 ∧
        (u.console 0).bound = some 0 ∧ (u.session 0).openTake = some 0 ∧
        (u.console 0).drift = .inStep ∧ (u.console 1).window = none) ∧
      onSettled (at_ 588) (fun u => ¬((10 * (u.officeTime - 40) * u.params.driftPerMille + 999) / 1000 <
        10 * (u.officeTime - 40) - 588)) := by decide +kernel

/-- Take 0/0 of `placing`, which typist 1 types. -/
def typed : Take := { takeIn .typing (some 0) with marks := [query], openQueries := 1 }

/-- Take 1/0 of `placing`, which waits with class RUSH and a qualification that it needs. -/
def rushed : Take :=
  { takeIn .closed none with
    cls := some .rush, quals := ⟨true, false, false, false⟩, sequence := some 2 }

/-- Take 2/0 of `placing`, which waits. -/
def plain : Take := { takeIn .closed none with sequence := some 3 }

/-- Typist 1 types take 0/0, typist 2 is IDLE without a qualification, a RUSH take and a plain one wait, and a
pass is due. -/
def placing : State :=
  { typing with
    takes := ((State.reset.takes.set 0 typed).set 1 rushed).set 2 plain
    sessions := typing.sessions.set 0
      { typing.session 0 with takes := [0, 1, 2], nextSequence := some 4 }
    typists := typing.typists.set 1
      { Typist.reset with clearance := 3, quals := .empty, state := .idle, idleSince := some 60 }
    queue := [⟨1, .rush, 4680, 0, false⟩, ⟨2, .ordinary, 4680, 0, false⟩]
    passDue := true }

theorem placing_take (i : TakeIx) : placing.take i =
    if i = 0 then typed else if i = 1 then rushed else if i = 2 then plain else Take.freeAt 0 := by
  have h : placing.takes =
      (((Vector.replicate 512 (Take.freeAt 0)).set 0 typed).set 1 rushed).set 2 plain := rfl
  unfold State.take
  rw [h]
  by_cases h0 : i = 0
  · subst h0; simp
  by_cases h1 : i = 1
  · subst h1; simp
  by_cases h2 : i = 2
  · subst h2; simp
  have a : (0 : Nat) ≠ i.val := fun e => h0 (Fin.ext e.symm)
  have b : (1 : Nat) ≠ i.val := fun e => h1 (Fin.ext e.symm)
  have c : (2 : Nat) ≠ i.val := fun e => h2 (Fin.ext e.symm)
  simp [h0, h1, h2, a, b, c]

/-- A property of every take of `placing`. -/
theorem placing_takes {p : TakeIx → Take → Prop} (h0 : p 0 typed) (h1 : p 1 rushed) (h2 : p 2 plain)
    (h : ∀ i, 2 < i.val → p i (Take.freeAt 0)) (i : TakeIx) : p i (placing.take i) := by
  rw [placing_take]
  split
  · subst_vars; exact h0
  split
  · subst_vars; exact h1
  split
  · subst_vars; exact h2
  exact h i (by have := i.isLt; simp only [Fin.ext_iff] at *; omega)

theorem placing_typists : (placing.typist 0).current = some 0 ∧ ∀ n,
    (placing.typist n).pending = none ∧ (placing.typist n).parked = none ∧
    ((placing.typist n).current = some 0 ∧ n = 0 ∧ (placing.typist n).state = .working ∨
      (placing.typist n).current = none ∧
        ((placing.typist n).state = .off ∨ (placing.typist n).state = .idle)) := by decide +kernel

theorem placing_sessions : ∀ x, (placing.session x).state ≠ .recording := by decide +kernel

theorem placing_holdLaw : placing.holdLaw := by
  have t0 : placing.take 0 = typed := by rw [placing_take]; simp
  have q : placing.queue.map QueueEntry.take = [1, 2] := rfl
  have f : (Take.freeAt 0).state = .free := rfl
  have k : typed.state = .typing ∧ typed.typist = some 0 ∧ rushed.state = .closed ∧
      plain.state = .closed := by decide
  refine holdLaw_of placing
    (placing_takes (p := fun i k => k.state ∈ [.offered, .typing, .parked] → ∃ n, k.typist = some n ∧
        (k.state = .offered → (placing.typist n).pending.map Pending.take = some i) ∧
        (k.state = .typing → (placing.typist n).current = some i) ∧
        (k.state = .parked → (placing.typist n).parked = some i))
      (by simp [k, placing_typists.1]) (by simp [k]) (by simp [k]) (by simp [f]))
    (fun n => ?_) (fun n => ?_)
    (placing_takes (p := fun i k => k.state = .closed ↔ i ∈ placing.queue.map QueueEntry.take)
      (by simp [k, q]) (by simp [k, q]) (by simp [k, q])
      (fun i h => by simp [f, q, Fin.ext_iff]; omega))
    (by simp [q]) (fun x h => absurd h (placing_sessions x))
    (placing_takes (p := fun i k => k.state = .opened → ∃ x ∈ k.session,
        (placing.session x).openTake = some i ∧ (placing.session x).state = .recording)
      (by simp [k]) (by simp [k]) (by simp [k]) (by simp [f]))
  · obtain ⟨a, b, ⟨c, rfl, -⟩ | ⟨c, -⟩⟩ := placing_typists.2 n <;> simp [a, b, c, t0, k]
  · obtain ⟨a, b, ⟨c, rfl, d⟩ | ⟨c, d⟩⟩ := placing_typists.2 n
    · simp [Typist.shape, a, c, d]
    · exact shape_of_free _ ⟨d, c, b, a⟩

/-- The hold law reads of a state its takes, its queue, its sessions, and what each typist holds in which
state. -/
theorem holdLaw_congr {s t : State} (takes : ∀ i, t.take i = s.take i) (queue : t.queue = s.queue)
    (sessions : ∀ x, t.session x = s.session x)
    (held : ∀ n, (t.typist n).current = (s.typist n).current ∧ (t.typist n).parked = (s.typist n).parked ∧
      (t.typist n).pending = (s.typist n).pending ∧ (t.typist n).state = (s.typist n).state)
    (h : s.holdLaw) : t.holdLaw := by
  unfold State.holdLaw Typist.shape at *
  simpa only [takes, queue, sessions, (held _).1, (held _).2.1, (held _).2.2.1, (held _).2.2.2] using h

/-- The grace of typist 1 of `placing` stands at 0, and no pass is due. -/
def lapsed : State :=
  ({ placing with passDue := false } : State).modTypist 0 (fun r => { r with away := true, grace := some 0 })

/-- Who holds what is as it should be, and the typist whose grace stands at 0 holds its current take alone. -/
theorem witness_TypistGraceExpiry_holdLaw :
    lapsed.settled.holdLaw ∧ onSettled lapsed (fun u => (u.typist 0).grace = some 0 ∧
      (u.typist 0).current = some 0 ∧ (u.typist 0).parked ≠ some 0 ∧
      (u.typist 0).pending.map Pending.take ≠ some 0) := by
  refine ⟨?_, by decide +kernel⟩
  rw [settled_of_not_due rfl]
  exact holdLaw_congr (s := placing) (fun _ => rfl) rfl (fun _ => rfl) (by decide +kernel) placing_holdLaw

/-- A pass is due, and after it a RUSH entry that no typist may take stands in the queue, its indicator clear
before. The hold law holds with a RUSH entry for which typist 1 is a candidate and a plain one for which
typist 2 is eligible. -/
theorem witness_PassLeavesNoPlacement :
    (let s : State := { waiting with passDue := true, queue := [⟨0, .rush, 4680, 0, false⟩] }
    s.passDue = true ∧ s.settled.queue.map QueueEntry.cls = [.rush]) ∧
      placing.passDue = true ∧ placing.holdLaw ∧
      placing.queue[0]? = some ⟨1, .rush, 4680, 0, false⟩ ∧
      placing.candidateFor 0 1 0 ∧ placing.queue[1]?.map QueueEntry.take = some 2 ∧
      placing.eligibleFor 1 2 ∧
      see (exec .placementPass placing) (fun t => ((t.typist 0).pending, (t.typist 1).pending)) =
        some (some ⟨1, .switch⟩, some ⟨2, .offer⟩) := by
  rw [← State.candidate_iff, ← State.eligible_iff]
  exact ⟨by decide +kernel, rfl, placing_holdLaw, rfl, by decide +kernel⟩

/-- No pass is due; one is due, and offers take 2/0 to an IDLE typist and take 1/0 to a WORKING one. -/
theorem witness_PassOffersAndNothingElse :
    office.passDue = false ∧ placing.passDue = true ∧ placing.holdLaw ∧ placing.linkLaw ∧
      (placing.take 2).state = .closed ∧ (placing.typist 1).state = .idle ∧
      (placing.take 1).state = .closed ∧ (placing.typist 0).state = .working ∧
      see (exec .placementPass placing) (fun t => ((t.take 2).typist, (t.take 1).typist)) =
        some (some 1, some 0) :=
  ⟨rfl, rfl, placing_holdLaw, by decide +kernel⟩

/-- A console's and a typist's reply with values at their tops, and two drops that differ. -/
theorem witness_ReplyFrameRoundTrip :
    let r : Reply := ⟨1, 65535, List.replicate 255 0⟩
    r.value < 65536 ∧ r.request.length < 256 ∧ ((0 : DropIx).val < 24 → r.flags.toNat ≤ 1) ∧
      ((71 : DropIx).val < 24 → (0xFF#8).toNat ≤ 1) ∧ (71 : DropIx) ≠ 0 := by decide +kernel

/-- A round runs; a transaction is in flight; every drop is DISABLED; none of these, with a drop that is due
and with none. -/
theorem witness_PollRound :
    onSettled { office with round := some 0 } (fun u => u.round ≠ none) ∧
      onSettled { office with inFlight := some ⟨0, 1000⟩ } (fun u => u.inFlight ≠ none) ∧
      onSettled State.reset (fun u => ∀ d, (u.drop d).state = .disabled) ∧
      onSettled office (fun u => u.round = none ∧ u.inFlight = none ∧ (u.drop 0).state ≠ .disabled) := by
  decide +kernel

/-- The round stands at drop 1, whose head message is an ANSWER, and at drop 25, whose head is an OFFER. -/
theorem witness_PollTransaction :
    let o : Message := .offer ⟨⟨9, 0⟩, 0, .rush, .empty, 1, 0, 1, 1, .onTime, 30⟩
    let a : Message := .answer ⟨1, .ok, false, false, false, []⟩
    onSettled (dropped 0 (fun r => { r with out := [a] }) { office with round := some 0 }) (fun u =>
        u.inFlight = none ∧ u.round = some (0 : DropIx).val ∧ (u.drop 0).due = true) ∧
      onSettled (dropped 24 (fun r => { r with out := [o] }) { office with round := some 24 }) (fun u =>
        u.inFlight = none ∧ u.round = some (24 : DropIx).val ∧ (u.drop 24).due = true) := by decide +kernel

/-- Nothing in flight; bytes that are no good reply; a first miss and a third miss of a PRESENT drop; a miss
of an ABSENT drop; the round behind the drop, and ended. -/
theorem witness_ReplyMiss :
    office.settled.inFlight = none ∧
      onSettled (polled 0 office) (fun u => u.inFlight = some ⟨0, 1000⟩ ∧ judgeReply 0 [1, 2] = none ∧
        (∀ p ∈ u.round, (0 : DropIx).val < p) ∧ (u.drop 0).state = .present ∧ (u.drop 0).misses ≠ 2) ∧
      onSettled (polled 0 (dropped 0 (fun r => { r with misses := 2 }) office)) (fun u =>
        (u.drop 0).state = .present ∧ (u.drop 0).misses = 2) ∧
      onSettled { polled 71 (dropped 71 (fun r => { r with state := .absent, rollCall := some 0 }) office) with
          round := none } (fun u =>
        u.inFlight = some ⟨71, 1000⟩ ∧ (∀ p ∈ u.round, (71 : DropIx).val < p) ∧
          (u.drop 71).state = .absent) := by decide +kernel

/-- The third miss of a recording console, of a BOUND and of an unbound one, of an OFF typist, of one with a
pending take, of one with a current take and of one with both, with grace values above 0. -/
theorem witness_AbsenceIsToldToTheOwner :
    let third (d : DropIx) (s : State) : State := polled d (dropped d (fun r => { r with misses := 2 }) s)
    let ready (d : DropIx) (u : State) : Prop :=
      u.inFlight = some ⟨d, 1000⟩ ∧ (u.drop d).state = .present ∧ (u.drop d).misses = 2
    (ready 0 (third 0 recording).settled ∧
      onSettled (third 0 recording) (fun u => (0 : DropIx) = consoleDrop 0 ∧
        (u.console 0).bound = some 0 ∧ (u.session 0).state = .recording ∧ 0 < u.params.consoleGrace)) ∧
      (ready 24 (third 24 waiting).settled ∧
        onSettled (third 24 waiting) (fun u =>
          (24 : DropIx) = typistDrop 0 ∧ (u.typist 0).state = .off)) ∧
      ready 24 (third 24 offered).settled ∧
        onSettled (third 24 offered) (fun u => (u.typist 0).state ≠ .off ∧ 0 < u.params.typistGrace ∧
          (u.typist 0).pending = some ⟨0, .offer⟩ ∧ (u.typist 0).current = none) ∧
        ready 0 (third 0 office).settled ∧
        onSettled (third 0 office) (fun u => (u.console 0).bound = some 0 ∧
          (u.session 0).state ≠ .recording) ∧
        ready 1 (third 1 (dropped 1 (fun _ => here) office)).settled ∧
        onSettled (third 1 (dropped 1 (fun _ => here) office)) (fun u => (u.console 1).bound = none) ∧
        onSettled (third 24 typing) (fun u => (u.typist 0).state ≠ .off ∧ (u.typist 0).pending = none) ∧
        onSettled (third 24 switching) (fun u => (u.typist 0).state ≠ .off ∧
          (u.typist 0).pending = some ⟨1, .switch⟩ ∧ (u.typist 0).current ≠ none) := by decide +kernel

/-- The same with grace values of 0: of a recording console, and of typists with a pending and a current take and
with a current and a parked one. -/
theorem witness_AbsenceIsToldToTheOwner_atOnce :
    let third (d : DropIx) (s : State) : State :=
      { polled d (dropped d (fun r => { r with misses := 2 }) s) with
        params := { s.params with consoleGrace := 0, typistGrace := 0 } }
    let ready (d : DropIx) (u : State) : Prop :=
      u.inFlight = some ⟨d, 1000⟩ ∧ (u.drop d).state = .present ∧ (u.drop d).misses = 2
    ready 0 (third 0 recording).settled ∧
      onSettled (third 0 recording) (fun u => (u.console 0).bound = some 0 ∧
        (u.session 0).state = .recording ∧ (u.session 0).openTake = some 0 ∧
        (u.session 0).console = some 0 ∧ (u.take 0).session = some 0 ∧ u.params.consoleGrace = 0) ∧
      (∀ s ∈ [switching, parking], ready 24 (third 24 s).settled ∧
        onSettled (third 24 s) (fun u => (u.typist 0).state ≠ .off ∧ u.params.typistGrace = 0)) ∧
      onSettled (third 24 switching) (fun u => (u.typist 0).pending = some ⟨1, .switch⟩ ∧
        (u.typist 0).current = some 0 ∧ (u.typist 0).parked = none) ∧
      onSettled (third 24 parking) (fun u => (u.typist 0).pending = none ∧
        (u.typist 0).current = some 1 ∧ (u.typist 0).parked = some 0) := by decide +kernel

/-- A good reply of a PRESENT console, of an ABSENT one, of an ABSENT typist, and of an ABSENT typist that has a
current take, whose queue is empty. -/
theorem witness_GoodReplyRestoresPresence :
    let gone (d : DropIx) : State :=
      polled d (dropped d (fun r => { r with state := .absent, rollCall := some 0 }) office)
    let r : Reply := ⟨0, 0, []⟩
    (∀ d ∈ [(0 : DropIx), 24], judgeReply d (replyFrame d r) = some r) ∧ r.request = [] ∧
      onSettled (polled 0 office) (fun u => u.inFlight = some ⟨0, 1000⟩ ∧
        (u.drop 0).state ≠ .disabled ∧ ∀ p ∈ u.round, (0 : DropIx).val < p) ∧
      onSettled (gone 0) (fun u => (u.drop 0).state = .absent ∧ (0 : DropIx) = consoleDrop 0) ∧
      onSettled (gone 24) (fun u => u.inFlight = some ⟨24, 1000⟩ ∧ (u.drop 24).state = .absent ∧
        (24 : DropIx) = typistDrop 0 ∧ ∀ p ∈ u.round, (24 : DropIx).val < p) ∧
      onSettled (polled 24 (dropped 24 (fun r => { r with state := .absent, rollCall := some 0 }) typing))
        (fun u => u.inFlight = some ⟨24, 1000⟩ ∧ (u.drop 24).state = .absent ∧ (u.drop 24).out = [] ∧
          (∀ p ∈ u.round, (24 : DropIx).val < p) ∧ (u.typist 0).current = some 0 ∧
          (u.typist 0).context = some context) := by decide +kernel

/-- A good reply of console 1 with an OPEN, with a code that no console has and with a ROLL that lacks its
length, and the reply without them; the drop ready to be answered, and with an ANSWER that waits. -/
theorem witness_GoodReplyRestoresPresence_request :
    let a : Message := .answer ⟨1, .ok, false, false, false, []⟩
    let busy : State := polled 0 (dropped 0 (fun r => { r with out := [a] }) office)
    let bare (s : State) (p : State → Bool) : Prop :=
      see (exec (.goodReply (replyFrame 0 ⟨0, 0, []⟩)) s) p = some true
    (∀ ps ∈ [[], [1], [0x7F], [2]], judgeReply 0 (replyFrame 0 ⟨0, 0, ps⟩) = some ⟨0, 0, ps⟩) ∧
      dropRole 0 = .console 0 ∧ Decode.consoleRequest 0 1 [] = .request (.openTake 0) ∧
      Decode.consoleRequest 0 0x7F [] = .undefined ∧ Decode.consoleRequest 0 2 [] = .malformed ∧
      onSettled (polled 0 office) (fun u => u.inFlight = some ⟨0, 1000⟩ ∧ (u.drop 0).state ≠ .disabled) ∧
      bare (polled 0 office) (fun v => decide (v.stationReady 0 ∧ (v.console 0).bound ≠ none)) ∧
      busy.settled.inFlight = some ⟨0, 1000⟩ ∧ bare busy (·.answerWaits 0) := by decide +kernel

/-- A code of 36000, which reaches the top; a code that falls and one that does not, over a running window. -/
theorem witness_TimeCodeIsTaken :
    let s := polled 0 (recording.modConsole 0 (fun k =>
      { k with window := some ⟨90, 400⟩, lastCode := some 500 }))
    (∀ v ∈ [36000, 499, 500], judgeReply 0 (replyFrame 0 ⟨1, v, []⟩) = some ⟨1, v, []⟩) ∧
      onSettled s (fun u => u.inFlight = some ⟨consoleDrop 0, 1000⟩ ∧
        (u.drop (consoleDrop 0)).state = .present ∧ (u.console 0).bound = some 0 ∧
        (u.session 0).state = .recording ∧ (u.session 0).openTake = some 0 ∧
        (u.console 0).lastCode = some 500 ∧ (u.take 0).flags.overlong = false) := by decide +kernel

/-- A position ahead of the context's, behind it and equal to it, with an empty queue. -/
theorem witness_PositionIsTaken :
    (∀ v ∈ [301, 299, 300], judgeReply 24 (replyFrame 24 ⟨0, v, []⟩) = some ⟨0, v, []⟩) ∧
      onSettled (polled 24 typing) (fun u => u.inFlight = some ⟨typistDrop 0, 1000⟩ ∧
        (u.drop (typistDrop 0)).state = .present ∧ (u.typist 0).state = .working ∧
        (u.typist 0).current = some 0 ∧ (u.typist 0).context = some context ∧
        context.position = 300 ∧ 301 ≤ (u.take 0).length ∧ (u.drop (typistDrop 0)).out = []) := by
  decide +kernel

/-- Numbers under and over 1..72; a drop that is PRESENT and one that is DISABLED; a recording console; typists
with a current take, with a current and a parked one, and with a pending one. -/
theorem witness_EnableAndDisableDrop :
    (∀ n ∈ [0, 1, 2, 25, 72, 73], office.hostReady (.enableDrop n) ∧ recording.hostReady (.disableDrop n) ∧
        typing.hostReady (.disableDrop n)) ∧
      (1#8).toNat = (0 : DropIx).val + 1 ∧ (72#8).toNat = (71 : DropIx).val + 1 ∧
      onSettled office (fun u => (u.drop 0).state = .present ∧ (u.drop 71).state = .disabled ∧
        u.round = none ∧ u.inFlight = none) ∧
      onSettled recording (fun u => (u.drop 0).state ≠ .disabled ∧ (0 : DropIx) = consoleDrop 0 ∧
        (u.console 0).bound = some 0 ∧ (u.session 0).state = .recording ∧
        (u.session 0).openTake = some 0 ∧ (u.take 0).session = some 0 ∧ (u.session 0).console = some 0) ∧
      office.hostReady (.disableDrop 1) ∧
      onSettled office (fun u => (u.console 0).bound = some 0 ∧ (u.session 0).state ≠ .recording) ∧
      onSettled typing (fun u => (u.drop 24).state ≠ .disabled ∧ (24 : DropIx) = typistDrop 0 ∧
        (u.typist 0).state ≠ .off ∧ (u.typist 0).current = some 0) ∧
      parking.hostReady (.disableDrop 25) ∧ offered.hostReady (.disableDrop 25) ∧
      onSettled parking (fun u => (u.drop 24).state ≠ .disabled ∧ (u.typist 0).state ≠ .off ∧
        (u.typist 0).current = some 1 ∧ (u.typist 0).parked = some 0 ∧ (u.typist 0).pending = none) ∧
      onSettled offered (fun u => (u.drop 24).state ≠ .disabled ∧ (u.typist 0).state ≠ .off ∧
        (u.typist 0).pending = some ⟨0, .offer⟩ ∧ (u.typist 0).current = none ∧
        (u.typist 0).parked = none) := by decide +kernel

/-- Handles, ids and numbers that the requests read; a start index with a take that fits and one without. -/
theorem witness_ReadRequests :
    queried.hostReady (.readTake 0) ∧ queried.hostReady (.readSession 7) ∧
      queried.hostReady (.readTypist 48) ∧ queried.hostReady (.readDrop 72) ∧
      queried.hostReady (.readMarks 0 2) ∧ queried.hostReady (.scanTakes 0 0x40 0x08) ∧
      queried.hostReady (.scanTakes 512 0xFF 0xFF) ∧
      (48#8).toNat = (47 : TypistIx).val + 1 ∧ (72#8).toNat = (71 : DropIx).val + 1 ∧
      (71 : DropIx) = typistDrop 47 ∧ queried.hostReady (.readDrop 1) ∧ (0 : DropIx) = consoleDrop 0 ∧
      onSettled queried (fun u => u.resolve 0 = some 0 ∧ u.findSession 7 = some 0 ∧
        (0x40#8).getLsbD (u.take 0).state.code = true ∧ (0x08#8).getLsbD (u.take 0).status.code = true) ∧
      queried.hostReady (.readSession 8) ∧ queried.settled.findSession 8 = none ∧
      (∀ n ∈ [0, 49], queried.hostReady (.readTypist n)) ∧ (∀ n ∈ [0, 73], queried.hostReady (.readDrop n)) ∧
      ∀ i : TakeIx, ¬512 ≤ i.val := by decide +kernel

/-- A stale handle, that of a FREE slot, and a CERTIFIED take. -/
theorem witness_HandleChecksOfTheHost :
    office.hostReady (.readTake 0) ∧ office.settled.resolve 0 = none ∧
      (office.settled.take 0).state = .free ∧ (0#16).toNat % 512 = (0 : TakeIx).val ∧
      certified.hostReady (.setClass 0 1) ∧ certified.hostReady (.certifyTake 0) ∧
      onSettled certified (fun u => u.resolve 0 = some 0 ∧ (u.take 0).state = .certified) := by
  decide +kernel

/-- Numbers under and over 1..24; the lock set over a higher, an equal and a lower clearance. -/
theorem witness_SetConsoleAndLockClearance :
    let s : State := { office with clearanceLock := true }
    office.hostReady .lockClearance ∧
      (∀ n ∈ [0, 1, 24, 25], ∀ b ∈ [1, 2, 3, 4], s.hostReady (.setConsole n b)) ∧
      (1#8).toNat = (0 : ConsoleIx).val + 1 ∧ (24#8).toNat = (23 : ConsoleIx).val + 1 ∧
      onSettled s (fun u => u.clearanceLock = true ∧ u.clearance (consoleDrop 0) < levelOf 3 ∧
        levelOf 2 ≤ u.clearance (consoleDrop 0)) := by decide +kernel

/-- A step under the lock that is no RESET. -/
theorem witness_NoClearanceRisesUnderTheLock :
    let s : State := { office with clearanceLock := true, pending := [.setConsole 1 1] }
    s.clearanceLock = true ∧ (∃ t, step s = .next t) ∧
      ∀ c cs, s.pending = c :: cs → c.isReset = false :=
  ⟨by decide +kernel, ⟨_, rfl⟩, fun c cs h => by cases h; rfl⟩

/-- Numbers under and over 1..48; the lock set over a higher clearance and the lock clear; a typist whose
current take is covered and whose record agrees with the clearance unit. -/
theorem witness_SetTypist :
    (∀ n ∈ [0, 1, 48, 49], typing.hostReady (.setTypist n (some 0) (some 0) (some 15)) ∧
        ({ typing with clearanceLock := true } : State).hostReady (.setTypist n (some 3) none none)) ∧
      (1#8).toNat = (0 : TypistIx).val + 1 ∧ (48#8).toNat = (47 : TypistIx).val + 1 ∧
      onSettled { typing with clearanceLock := true } (fun u => u.clearanceLock = true ∧
        u.clearance (typistDrop 47) < levelOf 3) ∧
      onSettled typing (fun u => u.clearanceLock = false ∧ (u.typist 0).current = some 0 ∧
        (u.typist 0).parked = none ∧ (u.typist 0).pending = none ∧
        (u.typist 0).coversTake (u.take 0) = true ∧
        (u.typist 0).clearance = u.clearance (typistDrop 0)) := by decide +kernel

/-- The laws hold of `s`, and the clearance copy of typist 1 is the clearance unit's. -/
abbrev lawful (s : State) : Prop :=
  s.holdLaw ∧ s.contextLaw ∧ s.coverLaw ∧ (s.typist 0).clearance = s.clearance (typistDrop 0)

/-- The laws hold of a state in which only the takes 0/0 and 1/0 are not FREE, none of them OPEN or CLOSED, and
only typist 1 holds takes. -/
theorem lawful_of_pair (s : State) (due : s.passDue = false) (queue : s.queue = [])
    (rest : ∀ i, 1 < i.val → s.take i = Take.freeAt 0)
    (sessions : ∀ x, (s.session x).state ≠ .recording)
    (pair : ∀ i ∈ [(0 : TakeIx), 1], (s.take i).state ≠ .closed ∧ (s.take i).state ≠ .opened ∧
      ((s.take i).state ∈ [.offered, .typing, .parked] →
        ((s.take i).state = .offered → (s.typist 0).pending.map Pending.take = some i) ∧
        ((s.take i).state = .typing → (s.typist 0).current = some i) ∧
        ((s.take i).state = .parked → (s.typist 0).parked = some i) ∧ (s.take i).typist = some 0))
    (held : (∀ i ∈ (s.typist 0).pending.map Pending.take,
        (s.take i).state = .offered ∧ (s.take i).typist = some 0) ∧
      (∀ i ∈ (s.typist 0).current, (s.take i).state = .typing ∧ (s.take i).typist = some 0) ∧
      (∀ i ∈ (s.typist 0).parked, (s.take i).state = .parked ∧ (s.take i).typist = some 0))
    (shape : (s.typist 0).shape)
    (others : ∀ n, n ≠ 0 → ((s.typist n).state = .off ∨ (s.typist n).state = .idle) ∧
      (s.typist n).current = none ∧ (s.typist n).parked = none ∧ (s.typist n).pending = none)
    (packages : ∀ i ∈ [(0 : TakeIx), 1], (s.take i).package.isSome = true ↔ (s.take i).state = .parked)
    (contexts : ∀ n, (s.typist n).context.isSome = true ↔ (s.typist n).current.isSome = true)
    (covered : ∀ i ∈ [(0 : TakeIx), 1], (s.take i).level ≤ (s.typist 0).clearance ∧
      (s.typist 0).quals.covers (s.take i).quals = true)
    (copy : (s.typist 0).clearance = s.clearance (typistDrop 0)) : lawful s.settled := by
  rw [settled_of_not_due due]
  have pairOr (i : TakeIx) : i ∈ [(0 : TakeIx), 1] ∨ s.take i = Take.freeAt 0 := by
    by_cases h : 1 < i.val
    · exact .inr (rest i h)
    · exact .inl (by simp only [List.mem_cons, Fin.ext_iff]; omega)
  have two (i : TakeIx) : i ∈ [(0 : TakeIx), 1] ∨ (s.take i).state = .free :=
    (pairOr i).imp_right fun f => by rw [f]; rfl
  refine ⟨holdLaw_of s (fun i h => ?_) (fun n => ?_) (fun n => ?_) (fun i => ?_) (by simp [queue])
    (fun x h => absurd h (sessions x)) (fun i h => ?_),
    ⟨fun i => (pairOr i).elim (packages i) fun f => by rw [f]; decide, contexts⟩,
    fun n i h => ?_, copy⟩
  · obtain m | f := two i
    · obtain ⟨a, b, c, d⟩ := (pair i m).2.2 h
      exact ⟨0, d, a, b, c⟩
    · simp [f] at h
  · by_cases z : n = 0
    · exact z ▸ held
    · simp [others n z]
  · by_cases z : n = 0
    · exact z ▸ shape
    · exact shape_of_free _ (others n z)
  · obtain m | f := two i
    · simp [queue, (pair i m).1]
    · simp [queue, f]
  · obtain m | f := two i
    · exact absurd h (pair i m).2.1
    · simp [f] at h
  · have z : n = 0 := by
      by_contra z
      obtain ⟨-, a, b, c⟩ := others n z
      simp [a, b, c] at h
    subst z
    refine covered i ((two i).resolve_right fun f => ?_)
    obtain ⟨p, c, k⟩ := held
    obtain h | h | h := h
    · simp [(p i h).1] at f
    · simp [(c i h).1] at f
    · simp [(k i h).1] at f

/-- Slots from 2 on are FREE where slot 0, and then slots 0 and 1, of the office have been written. -/
theorem free_beyond (s : State) (a b c : Take)
    (h : s.takes = office.takes.set 0 a ∨ s.takes = (office.takes.set 0 a).set 1 c ∨
      s.takes = ((office.takes.set 0 a).set 0 b).set 1 c) (i : TakeIx) (far : 1 < i.val) :
    s.take i = Take.freeAt 0 := by
  have x : (0 : Nat) ≠ i.val := by omega
  have y : (1 : Nat) ≠ i.val := by omega
  have o : office.takes = Vector.replicate 512 (Take.freeAt 0) := rfl
  unfold State.take
  rw [o] at h
  obtain h | h | h := h <;> rw [h] <;> simp [x, y]

theorem offered_lawful : lawful offered.settled :=
  lawful_of_pair offered rfl rfl
    (free_beyond offered _ plain plain (.inl rfl))
    (by decide +kernel) (by decide +kernel) (by decide +kernel)
    (by
      unfold Typist.shape
      rw [(by decide +kernel : (offered.typist 0).state = .offered)]
      decide +kernel)
    (by decide +kernel) (by decide +kernel) (by decide +kernel) (by decide +kernel) (by decide +kernel)

theorem switching_lawful : lawful switching.settled :=
  lawful_of_pair switching rfl rfl
    (free_beyond switching _ plain _ (.inr (.inl rfl)))
    (by decide +kernel) (by decide +kernel) (by decide +kernel)
    (by
      unfold Typist.shape
      rw [(by decide +kernel : (switching.typist 0).state = .switching)]
      decide +kernel)
    (by decide +kernel) (by decide +kernel) (by decide +kernel) (by decide +kernel) (by decide +kernel)

theorem parking_lawful : lawful parking.settled :=
  lawful_of_pair parking rfl rfl
    (free_beyond parking _ _ _ (.inr (.inr rfl)))
    (by decide +kernel) (by decide +kernel) (by decide +kernel)
    (by
      unfold Typist.shape
      rw [(by decide +kernel : (parking.typist 0).state = .working)]
      decide +kernel)
    (by decide +kernel) (by decide +kernel) (by decide +kernel) (by decide +kernel) (by decide +kernel)

/-- Typists with a pending take, with a current take and a pending SWITCH, and with a current and a parked take;
the laws hold of each. A clearance of 1 covers the takes of level 1 and not the current take of level 2 of the
last, so that its parked take is resumed; a clearance of 0 covers none; a ratio part, and a part that covers
all. -/
theorem witness_SetTypist_laws :
    lawful offered.settled ∧ lawful switching.settled ∧ lawful parking.settled ∧
      (∀ s ∈ [offered, switching, parking], ∀ l ∈ [none, some (0 : Byte), some 1, some 2],
        s.hostReady (.setTypist 1 l none (some 100)) ∧ s.settled.clearanceLock = false) ∧
      onSettled offered (fun u => (u.typist 0).pending = some ⟨0, .offer⟩ ∧ (u.take 0).level = 1) ∧
      onSettled switching (fun u => (u.typist 0).pending = some ⟨1, .switch⟩ ∧
        (u.typist 0).current = some 0 ∧ (u.take 0).level = 1 ∧ (u.take 1).level = 1) ∧
      onSettled parking (fun u => (u.typist 0).parked = some 0 ∧ (u.typist 0).current = some 1 ∧
        (u.take 0).level = 1 ∧ (u.take 1).level = 2 ∧ (u.drop (typistDrop 0)).state = .present) := by
  refine ⟨offered_lawful, switching_lawful, parking_lawful, ?_⟩
  decide +kernel

/-- Takes that a raised level takes from their typist of clearance 1: an OFFERED one; a current one, with and
without a SWITCH and with a parked take, whose drop is PRESENT, and one whose drop is not; a parked one. -/
theorem witness_Relevel_taken :
    let low (s : State) : State := s.modTypist 0 (fun r => { r with clearance := 1 })
    let taken (s : State) (i : TakeIx) (st : TakeState) : Prop :=
      s.hostReady (.relevel (BitVec.ofNat 16 i.val) 2) ∧
        onSettled s (fun u => u.resolve (BitVec.ofNat 16 i.val) = some i ∧ (u.take i).state = st ∧
          (u.take i).typist = some 0 ∧ (u.typist 0).clearance < max (u.take i).level (levelOf 2))
    (taken (low offered) 0 .offered ∧ (offered.typist 0).pending.map Pending.take = some 0) ∧
      (∀ s ∈ [typing, switching, dropped 24 (fun r => { r with state := .absent }) typing],
        taken (low s) 0 .typing ∧ (s.typist 0).current = some 0 ∧ (s.typist 0).parked = none) ∧
      (typing.drop 24).state = .present ∧ (switching.typist 0).state = .switching ∧
      (taken (low parking) 1 .typing ∧ (parking.typist 0).current = some 1 ∧
        (parking.drop 24).state = .present ∧ (parking.take 0).package.isSome = true) ∧
      taken (low parking) 0 .parked ∧ (parking.typist 0).parked = some 0 := by decide +kernel

/-- A level that the holder covers, and one that it does not; an OPEN take without SEAL-MARK-LOST and with it;
an OFFERED take that is raised while an audit failure stands. -/
theorem witness_Relevel :
    typing.hostReady (.relevel 0 3) ∧
      onSettled typing (fun u => u.resolve 0 = some 0 ∧ (u.take 0).state = .typing ∧
        (u.take 0).typist = some 0 ∧ levelOf 3 ≤ (u.typist 0).clearance ∧ u.auditFailure = false ∧
        (u.typist 0).current = some 0 ∧ (u.typist 0).parked ≠ some 0) ∧
      onSettled (typing.modTypist 0 (fun r => { r with clearance := 1 })) (fun u =>
        (u.typist 0).clearance < max (u.take 0).level (levelOf 2)) ∧
      onSettled recording (fun u => u.resolve 0 = some 0 ∧ (u.take 0).state = .opened ∧
        (u.take 0).flags.sealMarkLost = false ∧ (u.take 0).level < levelOf 3) ∧
      onSettled (recording.modTake 0 (fun k => { k with flags := { k.flags with sealMarkLost := true } }))
        (fun u => u.resolve 0 = some 0 ∧ (u.take 0).state = .opened ∧
          (u.take 0).flags.sealMarkLost = true ∧ (u.console 0).bound = some 0 ∧
          (u.session 0).openTake = some 0) ∧
      ({ offered with auditFailure := true } : State).hostReady (.relevel 0 2) ∧
      onSettled { offered with auditFailure := true } (fun u => u.resolve 0 = some 0 ∧
        (u.take 0).state = .offered ∧ (u.take 0).typist = some 0 ∧
        (u.typist 0).pending.map Pending.take = some 0 ∧ u.auditFailure = true ∧
        (u.take 0).level < levelOf 2) := by decide +kernel

/-- Each asker is heard; the handle is current, and stale. -/
theorem witness_ProbeTake :
    typing.askerReady .host (.probeTake .host 0 none) ∧
      typing.askerReady (.console 0) (.probeTake (.console 0) 0 none) ∧
      typing.askerReady (.typist 0) (.probeTake (.typist 0) 0 (some 4)) ∧
      onSettled typing (fun u => u.resolve 0 = some 0 ∧ u.resolve 1 = none) := by
  unfold State.askerReady
  decide +kernel

/-- Console numbers under and over 1..24; a bound console and an id that is held; no FREE record; a FREE
one. -/
theorem witness_OpenSession :
    let full : State := { office with
      sessions := office.sessions.map (fun r => { r with id := some 7, state := .ended }) }
    (∀ n ∈ [0, 1, 2, 24, 25], office.hostReady (.openSession 9 n 4 1 700000 0) ∧
        full.hostReady (.openSession 9 n 4 1 700000 0)) ∧
      onSettled office (fun u => u.findSession 7 ≠ none ∧ (u.console 0).bound ≠ none ∧
        u.findSession 9 = none ∧ (u.console 1).bound = none ∧ (u.console 23).bound = none ∧
        (u.session 1).state = .free ∧ (u.session 0).state ≠ .free) ∧
      onSettled full (fun u => u.findSession 9 = none ∧ ∀ x, (u.session x).state ≠ .free) := by
  decide +kernel

/-- No session; an ENDED one; a RECORDING one; a BOUND one without takes. -/
theorem witness_EndSession :
    office.hostReady (.endSession 8) ∧ office.hostReady (.endSession 7) ∧ recording.hostReady (.endSession 7) ∧
      onSettled office (fun u => u.findSession 8 = none ∧ u.findSession 7 = some 0 ∧
        (u.session 0).state = .bound ∧ (u.session 0).takes = []) ∧
      onSettled recording (fun u => u.findSession 7 = some 0 ∧ (u.session 0).state = .recording ∧
        (u.session 0).openTake = some 0 ∧ (u.session 0).takes ≠ [] ∧ (u.session 0).console = some 0 ∧
        (u.take 0).session = some 0) ∧
      onSettled (office.modSession 0 (fun r => { r with state := .ended })) (fun u =>
        u.findSession 7 = some 0 ∧ (u.session 0).state = .ended) := by decide +kernel

/-- An OPEN, a RETURNED, a CLOSED and a TYPING take. -/
theorem witness_SetDeadline :
    recording.hostReady (.setDeadline 0 0) ∧ returned.hostReady (.setDeadline 0 0) ∧
      waiting.hostReady (.setDeadline 0 0) ∧ typing.hostReady (.setDeadline 0 4294967295) ∧
      onSettled recording (fun u => u.resolve 0 = some 0 ∧ (u.take 0).state = .opened) ∧
      onSettled returned (fun u => u.resolve 0 = some 0 ∧ (u.take 0).state = .returned) ∧
      onSettled waiting (fun u => u.resolve 0 = some 0 ∧ (u.take 0).state = .closed ∧
        u.queue.map QueueEntry.take = [0]) ∧
      onSettled typing (fun u => u.resolve 0 = some 0 ∧ (u.take 0).state = .typing ∧
        (u.take 0).state.watched = true) := by decide +kernel

/-- A RETURNED take; an OPEN, a CLOSED, a TYPING and a PARKED one, for RUSH and for a plain class. -/
theorem witness_SetClass :
    (∀ b ∈ [0, 1, 3, 4, 255], returned.hostReady (.setClass 0 b) ∧ recording.hostReady (.setClass 0 b) ∧
        waiting.hostReady (.setClass 0 b) ∧ typing.hostReady (.setClass 0 b) ∧
        parking.hostReady (.setClass 0 b)) ∧
      onSettled returned (fun u => u.resolve 0 = some 0 ∧ (u.take 0).state = .returned) ∧
      onSettled recording (fun u => u.resolve 0 = some 0 ∧ (u.take 0).state = .opened) ∧
      onSettled waiting (fun u => u.resolve 0 = some 0 ∧ (u.take 0).state = .closed ∧
        (u.take 0).cls ≠ some .rush) ∧
      onSettled typing (fun u => u.resolve 0 = some 0 ∧ (u.take 0).state = .typing) ∧
      onSettled parking (fun u => u.resolve 0 = some 0 ∧ (u.take 0).state = .parked ∧
        (u.take 0).typist = some 0) := by decide +kernel

/-- A CLOSED take; an OFFERED, a TYPING and a PARKED one held by typist 1; a typist that is switching and
one that has a parked take when its current one goes. -/
theorem witness_WithdrawTake :
    waiting.hostReady (.withdrawTake 0) ∧ offered.hostReady (.withdrawTake 0) ∧
      typing.hostReady (.withdrawTake 0) ∧ parking.hostReady (.withdrawTake 0) ∧
      switching.hostReady (.withdrawTake 0) ∧
      onSettled waiting (fun u => u.resolve 0 = some 0 ∧ (u.take 0).state = .closed) ∧
      onSettled offered (fun u => u.resolve 0 = some 0 ∧ (u.take 0).state = .offered ∧
        (u.take 0).typist = some 0 ∧ (u.typist 0).pending.map Pending.take = some 0) ∧
      onSettled typing (fun u => u.resolve 0 = some 0 ∧ (u.take 0).state = .typing ∧
        (u.take 0).typist = some 0 ∧ (u.typist 0).current = some 0 ∧ (u.typist 0).parked = none ∧
        (u.typist 0).state ≠ .switching) ∧
      onSettled parking (fun u => u.resolve 0 = some 0 ∧ (u.take 0).state = .parked ∧
        (u.take 0).typist = some 0 ∧ (u.typist 0).parked = some 0 ∧ u.resolve 1 = some 1 ∧
        (u.take 1).state = .typing ∧ (u.typist 0).current = some 1 ∧
        (u.take 0).package.isSome = true) ∧
      onSettled switching (fun u => (u.take 0).state = .typing ∧ (u.typist 0).state = .switching ∧
        u.resolve 1 = some 1 ∧ (u.take 1).state = .offered ∧ (u.take 1).typist = some 0 ∧
        (u.typist 0).pending.map Pending.take = some 1 ∧ (u.typist 0).current ≠ none) := by
  decide +kernel

/-- A RETURNED take, with values up to its length and above; a CLOSED one. -/
theorem witness_RequeueTake :
    returned.hostReady (.requeueTake 0 1000) ∧ returned.hostReady (.requeueTake 0 1001) ∧
      waiting.hostReady (.requeueTake 0 0) ∧
      onSettled returned (fun u => u.resolve 0 = some 0 ∧ (u.take 0).state = .returned ∧
        (u.take 0).length = 1000) ∧
      onSettled waiting (fun u => u.resolve 0 = some 0 ∧ (u.take 0).state = .closed) := by decide +kernel

/-- RETURNED with an open query and without; CERTIFIED at generations 0 and 127; CLOSED, and TYPING. -/
theorem witness_CertifyAndRetire :
    queried.hostReady (.certifyTake 0) ∧ returned.hostReady (.certifyTake 0) ∧
      typing.hostReady (.certifyTake 0) ∧ typing.hostReady (.retireTake 0) ∧
      certified.hostReady (.retireTake 0) ∧
      onSettled queried (fun u => u.resolve 0 = some 0 ∧ (u.take 0).state = .returned ∧
        0 < (u.take 0).openQueries) ∧
      onSettled returned (fun u => u.resolve 0 = some 0 ∧ (u.take 0).state = .returned ∧
        (u.take 0).openQueries = 0) ∧
      onSettled certified (fun u => u.resolve 0 = some 0 ∧ (u.take 0).state = .certified ∧
        (u.take 0).session = some 0) ∧
      onSettled (certified.modTake 0 (fun k => { k with gen := 127 })) (fun u =>
        u.resolve 0xFE00 = some 0) ∧
      onSettled typing (fun u => u.resolve 0 = some 0 ∧ (u.take 0).state = .typing) := by decide +kernel

/-- A drop that is not PRESENT; one whose ANSWER waits; an unbound console; an OFF typist; a typist that
names a take that is not its current one, and a stale one. -/
theorem witness_StationRequestsTurnedAway :
    let a : Message := .answer ⟨1, .ok, false, false, false, []⟩
    (Instr.openTake 1).console?.map consoleDrop = some 1 ∧ office.settled.drop 1 = Drop.reset ∧
      onSettled (dropped 0 (fun r => { r with out := [a] }) office) (fun u =>
        (u.drop 0).state = .present ∧ u.answerWaits 0 = true) ∧
      (Instr.openTake 0).console? = some 0 ∧ (Instr.openTake 0).isProbe = false ∧
      onSettled (office.modConsole 0 (fun k => { k with bound := none })) (fun u =>
        u.stationReady (consoleDrop 0) ∧ (u.console 0).bound = none) ∧
      (Instr.signOff 0).typist? = some 0 ∧ (Instr.signOff 0).isProbe = false ∧
      (Instr.signOff 0).isSignOn = false ∧
      onSettled waiting (fun u => u.stationReady (typistDrop 0) ∧ (u.typist 0).state = .off) ∧
      (Instr.doneTake 0 1).onCurrent? = some (0, 1) ∧ (Instr.releaseTake 0 2).onCurrent? = some (0, 2) ∧
      onSettled switching (fun u => u.stationReady (typistDrop 0) ∧ (u.typist 0).state ≠ .off ∧
        u.resolve 1 = some 1 ∧ u.resolve 1 ≠ (u.typist 0).current ∧ u.resolve 2 = none) := by
  decide +kernel

/-- A queue of four messages that holds a CUE still takes an ANSWER. -/
theorem witness_stationReady_full :
    let cue (n : Nat) : Message := .cue ⟨⟨0, 0⟩, n, query⟩
    onSettled (dropped 24 (fun r => { r with out := [cue 1, cue 2, cue 3, cue 4] }) typing) (fun u =>
      u.stationReady (typistDrop 0)) := by decide +kernel

/-- The office without a FREE slot. -/
def crowdedOffice : State :=
  { office with takes := Vector.replicate 512 { Take.freeAt 0 with state := .certified } }

theorem crowdedOffice_has_no_free_slot (j : TakeIx) : (crowdedOffice.settled.take j).state ≠ .free := by
  rw [settled_of_not_due rfl]
  simp [crowdedOffice, State.take]

/-- No record of the pool is free, and the slots from 2 on hold CERTIFIED takes. -/
def noRecord (s : State) : State :=
  { s with
    takes := ((Vector.replicate 512 { Take.freeAt 0 with
      state := .certified, marks := List.replicate 9 query }).set 0 (s.take 0)).set 1 (Take.freeAt 0) }

/-- BOUND with the first and the last sequence and with none, RECORDING, a carry with a record free for its mark
and with none, and a directory without a FREE slot. -/
theorem witness_OpenTake :
    let last (n : Option Nat) : State :=
      office.modSession 0 (fun r => { r with nextSequence := n, sealCarry := some 2 })
    onSettled office (fun u => u.stationReady (consoleDrop 0) ∧ (u.console 0).bound = some 0 ∧
        (u.session 0).state = .bound ∧ (u.session 0).nextSequence = some 1 ∧ (u.take 0).state = .free ∧
        ∀ j : TakeIx, ¬j < 0) ∧
      onSettled (last (some 64)) (fun u => (u.session 0).state = .bound ∧
        (u.session 0).nextSequence = some 64 ∧ (u.session 0).sealCarry = some 2 ∧ (u.take 0).marks = [] ∧
        u.hasRoom ((u.session 0).opens 0 0 64) .sealStart = true ∧ u.lowestFree = some 0) ∧
      onSettled (noRecord (last (some 64))) (fun u => u.stationReady (consoleDrop 0) ∧
        (u.console 0).bound = some 0 ∧ (u.session 0).state = .bound ∧ (u.take 0).state = .free ∧
        (u.session 0).sealCarry = some 2 ∧ (u.take 0).marks = [] ∧
        u.hasRoom ((u.session 0).opens 0 0 64) .sealStart = false) ∧
      onSettled (last none) (fun u => (u.session 0).state = .bound ∧ (u.session 0).nextSequence = none) ∧
      onSettled crowdedOffice (fun u => u.stationReady (consoleDrop 0) ∧ (u.session 0).state = .bound) ∧
      onSettled recording (fun u => u.stationReady (consoleDrop 0) ∧ (u.console 0).bound = some 0 ∧
        (u.session 0).state ≠ .bound) := by decide +kernel

/-- BOUND; RECORDING, with lengths up to the top and above. -/
theorem witness_CloseTake :
    onSettled office (fun u => u.stationReady (consoleDrop 0) ∧ (u.console 0).bound = some 0 ∧
        (u.session 0).state ≠ .recording) ∧
      onSettled recording (fun u => u.stationReady (consoleDrop 0) ∧ (u.console 0).bound = some 0 ∧
        (u.session 0).state = .recording ∧ (u.session 0).openTake = some 0 ∧
        (u.take 0).session = some 0 ∧ (u.session 0).console = some 0) ∧
      min 36000 (36000#16).toNat = 36000 ∧ 36000 < (36001#16).toNat := by decide +kernel

/-- BOUND; RECORDING with a span and a FREE slot, with a record free for the carried mark after the close and
with none; RECORDING without a sequence left. -/
theorem witness_RollTake :
    let spanning : State := recording.modTake 0 (fun k => { k with openSpan := some 2, level := 2 })
    let closes (s : State) (room : Bool) : Prop := see (exec (.closeTake 0 700) s) (fun v =>
      (v.hasRoom ((v.session 0).opens 0 0 2) .sealStart, v.lowestFree.isSome)) = some (room, true)
    onSettled office (fun u => u.stationReady (consoleDrop 0) ∧ (u.console 0).bound = some 0 ∧
        (u.session 0).state = .bound) ∧
      (∀ s ∈ [spanning, noRecord spanning], onSettled s (fun u =>
        u.stationReady (consoleDrop 0) ∧ (u.console 0).bound = some 0 ∧
        (u.session 0).state = .recording ∧ (u.session 0).openTake = some 0 ∧
        (u.take 0).state = .opened ∧ (u.take 0).session = some 0 ∧ (u.session 0).console = some 0 ∧
        (u.session 0).nextSequence = some 2 ∧ (u.take 1).state = .free ∧ (u.take 1).marks = [] ∧
        ∀ k : TakeIx, k.val < 1 → (u.take k).state ≠ .free)) ∧
      closes spanning true ∧ closes (noRecord spanning) false ∧
      onSettled (recording.modSession 0 (fun r => { r with nextSequence := none })) (fun u =>
        (u.session 0).state = .recording ∧ (u.session 0).nextSequence = none) := by decide +kernel

/-- A NOTE at and above the length, an off-record kind, a take whose list is full, and one where the NOTE
stands already. -/
theorem witness_MarkTake :
    let crowded : State := recording.modTake 0 (fun k => { k with marks := List.replicate 255 query })
    let note : Mark := ⟨7, 500, .note, none, none, 1, .console 0, none, false⟩
    onSettled recording (fun u => u.stationReady (consoleDrop 0) ∧ (u.console 0).bound = some 0 ∧
        u.resolve 0 = some 0 ∧ (u.take 0).state = .opened ∧ (u.take 0).session = some 0 ∧
        (u.take 0).marks = [] ∧ (u.take 0).length = 500 ∧ u.hasRoom (u.take 0) .note = true ∧
        u.hasRoom (u.take 0) .offRecordStart = true ∧ u.lowestFree = some 0) ∧
      MarkKind.ofCode (9#8).toNat = some .note ∧ MarkKind.ofCode (6#8).toNat = some .offRecordStart ∧
      labelIntake (some [0x41, 0x42]) = some (some [0x41, 0x42], false) ∧
      onSettled crowded (fun u => u.hasRoom (u.take 0) .note = false ∧ u.resolve 0 = some 0 ∧
        ∀ m ∈ (u.take 0).marks, m.kind ≠ .note) ∧
      onSettled (recording.modTake 0 (fun k => { k with marks := [query, note] })) (fun u =>
        u.resolve 0 = some 0 ∧ (u.take 0).marks.find? (fun m => decide (m.kind = .note ∧ m.offset = 500 ∧
          m.speaker = none ∧ m.label = none ∧ m.source = .console 0)) = some note) := by decide +kernel

/-- Each refusal of MARK: a kind and a label that are refused, a stale handle, a CERTIFIED and a RETURNED
take, an off-record kind in a CLOSED one, and a take of another session. -/
theorem witness_MarkTake_refused :
    let at_ (s : State) (st : TakeState) : Prop := onSettled s (fun u =>
      u.stationReady (consoleDrop 0) ∧ (u.console 0).bound = some 0 ∧ u.resolve 0 = some 0 ∧
        (u.take 0).state = st)
    (8#8).toNat ∉ [0, 1, 2, 3, 6, 7, 9] ∧ labelIntake (some [0x1F]) = none ∧
      recording.settled.resolve 1 = none ∧ at_ certified .certified ∧ at_ returned .returned ∧
      at_ waiting .closed ∧
      onSettled (waiting.modTake 0 (fun k => { k with session := some 1 })) (fun u =>
        u.stationReady (consoleDrop 0) ∧ (u.take 0).session ≠ some 0) := by decide +kernel

/-- The take that session 0 records at level 3, with its marks and its span. -/
def sealing (ms : List Mark) (l : Option Level) : State :=
  recording.modTake 0 (fun k => { k with openSpan := l, level := 3, marks := ms })

/-- RECORDING without a span and with one, with a free record and with a full list; a refused label; BOUND. -/
theorem witness_SealAndUnseal :
    labelIntake none = some (none, false) ∧ labelIntake (some [0x1F]) = none ∧
      onSettled office (fun u => u.stationReady (consoleDrop 0) ∧ (u.console 0).bound = some 0 ∧
        (u.session 0).state ≠ .recording) ∧
      (∀ l ∈ [none, some 3], onSettled (sealing [] l) (fun u => u.stationReady (consoleDrop 0) ∧
        (u.console 0).bound = some 0 ∧ (u.session 0).state = .recording ∧
        (u.session 0).openTake = some 0 ∧ (u.take 0).state = .opened ∧ (u.take 0).length = 500 ∧
        u.hasRoom (u.take 0) .sealStart = true ∧ u.hasRoom (u.take 0) .sealEnd = true ∧
        u.lowestFree = some 0)) ∧
      onSettled (sealing (List.replicate 255 query) none) (fun u => (u.take 0).state = .opened ∧
        u.hasRoom (u.take 0) .sealStart = false ∧ u.hasRoom (u.take 0) .sealEnd = false) := by
  decide +kernel

/-- Without an identical seal mark at the held length, and with one. -/
theorem witness_SealAndUnseal_identical : ∀ kind ∈ [MarkKind.sealStart, .sealEnd],
    let edge : Mark := ⟨7, 500, kind, none, none, 3, .console 0, none, false⟩
    let found (ms : List Mark) : Option Mark := ((sealing ms none).settled.take 0).marks.find? (fun m =>
      decide (m.kind = kind ∧ m.offset = 500 ∧ m.speaker = none ∧ m.label = none ∧ m.source = .console 0))
    found [] = none ∧ found [query] = none ∧ found [query, edge] = some edge := by decide +kernel

/-- An OPEN query and a RESOLVED one, for the host and for console 1, without a label and with one: with a
free record, with the NOTE standing already, and with a full list. -/
theorem witness_ResolveQuery :
    let listed (ms : List Mark) : State := queried.modTake 0 (fun k => { k with marks := ms })
    let note : Mark := ⟨7, 250, .note, none, some [0x41], 1, .supervisor, none, false⟩
    let same (m : Mark) : Bool := decide (m.kind = .note ∧ m.offset = 250 ∧ m.speaker = none ∧
      m.label = some [0x41] ∧ m.source = .supervisor)
    labelIntake none = some (none, false) ∧ labelIntake (some [0x41]) = some (some [0x41], false) ∧
      (∀ m ∈ [query, { query with query := some .resolved }],
        ∀ ms ∈ [[m], [m, note], m :: List.replicate 254 { note with label := none }],
        (listed ms).hostReady (.resolveQuery .host 0 5 none) ∧
        onSettled (listed ms) (fun u => u.stationReady (consoleDrop 0) ∧ (u.console 0).bound = some 0 ∧
          (u.take 0).session = some 0 ∧ u.resolve 0 = some 0 ∧ (u.take 0).state = .returned ∧
          (u.take 0).marks.find? (fun k => k.id.val = (5#16).toNat) = some m ∧ m.kind = .query)) ∧
      onSettled (listed [query]) (fun u => (u.take 0).marks.find? same = none ∧
        u.hasRoom (u.take 0) .note = true ∧ u.lowestFree = some 0) ∧
      onSettled (listed [query, note]) (fun u => (u.take 0).marks.find? same = some note) ∧
      onSettled (listed (query :: List.replicate 254 { note with label := none })) (fun u =>
        (u.take 0).marks.find? same = none ∧ u.hasRoom (u.take 0) .note = false) := by decide +kernel

/-- Each refusal of RESOLVE: a refused label, a stale handle, a CERTIFIED and an OPEN take, a take of another
session, an identifier that the list does not bear, and a mark of another kind. -/
theorem witness_ResolveQuery_refused :
    let note : Mark := { query with kind := .note, query := none }
    queried.hostReady (.resolveQuery .host 0 5 (some [0x1F])) ∧ labelIntake (some [0x1F]) = none ∧
      labelIntake none ≠ none ∧ queried.settled.resolve 1 = none ∧
      onSettled certified (fun u => u.resolve 0 = some 0 ∧ (u.take 0).state = .certified) ∧
      onSettled recording (fun u => u.resolve 0 = some 0 ∧ (u.take 0).state = .opened) ∧
      onSettled (queried.modTake 0 (fun k => { k with session := some 1 })) (fun u =>
        u.stationReady (consoleDrop 0) ∧ (u.take 0).session ≠ (u.console 0).bound ∧
        (u.console 0).bound ≠ none) ∧
      onSettled (queried.modTake 0 (fun k => { k with marks := [note] })) (fun u =>
        u.resolve 0 = some 0 ∧ (u.take 0).state = .returned ∧
        (u.take 0).marks.find? (fun k => k.id.val = (6#16).toNat) = none ∧
        (u.take 0).marks.find? (fun k => k.id.val = (5#16).toNat) = some note) := by decide +kernel

/-- Console 1 and typist 1, with the take's own handle, a stale one, and a start above the count. -/
theorem witness_ListMarks :
    typing.askerReady (.console 0) (.listMarks (.console 0) 0 9 none) ∧
      typing.askerReady (.typist 0) (.listMarks (.typist 0) 1 0 none) ∧
      (Asker.console 0 ≠ .host ∧ Asker.typist 0 ≠ .host) ∧
      onSettled typing (fun u => (u.console 0).bound = some 0 ∧ (u.typist 0).state ≠ .off ∧
        u.resolve 0 = some 0 ∧ u.resolve 1 = none ∧ (u.console 0).bound = (u.take 0).session ∧
        (u.take 0).level ≤ u.clearance (consoleDrop 0) ∧ (u.take 0).marks.length < 9) ∧
      onSettled (typing.modTake 0 (fun k => { k with level := 3 })) (fun u =>
        u.clearance (consoleDrop 0) < (u.take 0).level) := by
  unfold State.askerReady
  decide +kernel

/-- Any kind, a kind, and codes outside the table; a session with a mark that fits, with and without room for
the bookmark, one without a mark, and one with the console's own bookmark. -/
theorem witness_LocateMark :
    ((none : Option Byte) = none ∨ (none : Option Byte) = some 255) ∧
      ((some 8 : Option Byte) = some 8 ∧ (8#8) ≠ 255 ∧ MarkKind.ofCode (8#8).toNat = some .query) ∧
      onSettled queried (fun u => u.stationReady (consoleDrop 0) ∧ (u.console 0).bound = some 0 ∧
        (u.session 0).takes = [0] ∧ (u.take 0).marks = [query] ∧
        query.level ≤ u.clearance (consoleDrop 0) ∧ u.auditFailure = false ∧
        (u.take 0).state ≠ .certified ∧ query.kind ≠ .bookmark ∧
        u.hasRoom (u.take 0) .bookmark = true ∧ u.lowestFree = some 0) ∧
      (∀ b ∈ [11#8, 254#8], 10 < b.toNat ∧ b.toNat ≠ 255) ∧
      onSettled (queried.modTake 0 (fun k => { k with marks := List.replicate 255 query })) (fun u =>
        u.hasRoom (u.take 0) .bookmark = false ∧ ∀ m ∈ (u.take 0).marks, m.kind ≠ .bookmark) ∧
      onSettled office (fun u => u.stationReady (consoleDrop 0) ∧ (u.console 0).bound = some 0 ∧
        (u.session 0).takes = []) ∧
      (let own : Mark := ⟨7, 250, .bookmark, none, none, 1, .console 0, none, false⟩
      onSettled (queried.modTake 0 (fun k => { k with marks := [own] })) (fun u =>
        (u.take 0).marks = [own] ∧ (u.take 0).state ≠ .certified ∧
        own.level ≤ u.clearance (consoleDrop 0)) ∧
      onSettled (queried.modTake 0 (fun k => { k with marks := [own, query] })) (fun u =>
        (u.take 0).marks = [own, query] ∧ own.kind = .bookmark ∧ own.offset = query.offset ∧
        own.source = .console 0)) := by decide +kernel

/-- A stale handle; an OPEN, a CLOSED, a PARKED, a RETURNED and a CERTIFIED take of the session, and a take
of another. -/
theorem witness_RushTake :
    let at_ (s : State) (st : TakeState) : Prop := onSettled s (fun u =>
      u.stationReady (consoleDrop 0) ∧ (u.console 0).bound = some 0 ∧ u.resolve 0 = some 0 ∧
      (u.take 0).state = st)
    at_ recording .opened ∧ at_ waiting .closed ∧ at_ typing .typing ∧ at_ parking .parked ∧
      at_ returned .returned ∧ at_ certified .certified ∧ recording.settled.resolve 1 = none ∧
      at_ (waiting.modTake 0 (fun k => { k with session := some 1 })) .closed := by decide +kernel

/-- An OFF typist; a signed-on one that holds a current and a parked take, and one with a pending take. -/
theorem witness_SignOnAndOff :
    onSettled waiting (fun u => u.stationReady (typistDrop 0) ∧ (u.typist 0).state = .off) ∧
      onSettled parking (fun u => u.stationReady (typistDrop 0) ∧ (u.typist 0).state ≠ .off ∧
        (u.typist 0).current = some 1 ∧ (u.typist 0).parked = some 0 ∧ (u.typist 0).pending = none) ∧
      onSettled offered (fun u => u.stationReady (typistDrop 0) ∧ (u.typist 0).state ≠ .off ∧
        (u.typist 0).pending = some ⟨0, .offer⟩ ∧ (u.typist 0).current = none ∧
        (u.typist 0).parked = none) := by decide +kernel

/-- Values at typed-to, 299 and 300 beyond the sample base, and above the length. -/
theorem witness_Checkpoint :
    onSettled typing (fun u => u.stationReady (typistDrop 0) ∧ (u.typist 0).state ≠ .off ∧
      u.resolve 0 = some 0 ∧ (u.typist 0).current = some 0 ∧ (u.typist 0).context = some context ∧
      (u.take 0).typedTo = 200 ∧ context.base = 200 ∧ (u.take 0).length = 1000) := by decide +kernel

/-- A label, a refused one, and a free record, with no identical mark standing; an identical mark; a full list. -/
theorem witness_RaiseQuery :
    let own : Mark := ⟨5, 300, .query, none, none, 1, .typist 0, some .raised, false⟩
    let listed (ms : List Mark) : State := typing.modTake 0 (fun k => { k with marks := ms })
    labelIntake (some [0x41]) = some (some [0x41], false) ∧ labelIntake (some [0x1F]) = none ∧
      labelIntake none = some (none, false) ∧
      (∀ s ∈ [listed [own], listed (List.replicate 255 query)], onSettled s (fun u =>
        u.stationReady (typistDrop 0) ∧ (u.typist 0).state ≠ .off ∧ u.resolve 0 = some 0 ∧
        (u.typist 0).current = some 0 ∧ (u.typist 0).context = some context ∧
        (u.take 0).state = .typing ∧ (u.take 0).typist = some 0)) ∧
      onSettled (listed [own]) (fun u => (u.take 0).marks = [own] ∧
        min (u.take 0).length context.position = own.offset) ∧
      onSettled (listed (List.replicate 255 query)) (fun u => u.hasRoom (u.take 0) .query = false ∧
        ∀ m ∈ (u.take 0).marks, m.offset ≠ min (u.take 0).length context.position) ∧
      onSettled typing (fun u => u.stationReady (typistDrop 0) ∧ (u.typist 0).state ≠ .off ∧
        u.resolve 0 = some 0 ∧ (u.typist 0).current = some 0 ∧ (u.typist 0).context = some context ∧
        (u.take 0).marks = [] ∧ u.hasRoom (u.take 0) .query = true ∧ u.lowestFree = some 0) := by
  decide +kernel

/-- A typist with nothing parked, with a parked take, without and with a RESUME that waits unsent, and with a
pending SWITCH. -/
theorem witness_DoneAndRelease :
    let own (s : State) (h : Half) (i : TakeIx) : Prop := onSettled s (fun u =>
      u.stationReady (typistDrop 0) ∧ (u.typist 0).state ≠ .off ∧ u.resolve h = some i ∧
      (u.typist 0).current = some i ∧ (u.typist 0).parked ≠ some i ∧
      (u.typist 0).context = some context)
    let told : State := dropped 24 (fun r => { r with out := [.resume ⟨1, 0⟩ 300 0] }) parking
    own typing 0 0 ∧ own parking 1 1 ∧ own told 1 1 ∧ own switching 0 0 ∧
      onSettled told (fun u => (u.typist 0).state ≠ .switching ∧ (u.typist 0).parked = some 0 ∧
        (u.take 0).package = some ⟨300, 0, 90, 200, 0⟩ ∧
        (u.drop 24).out.any Message.isHandOff = true) := by decide +kernel

/-- The hold law holds where a parked take waits and where a SWITCH is pending. -/
theorem witness_DoneAndRelease_holdLaw :
    parking.settled.holdLaw ∧ switching.settled.holdLaw ∧
      onSettled parking (fun u => u.resolve 1 = some 1 ∧ (u.typist 0).current = some 1) ∧
      onSettled switching (fun u => u.resolve 0 = some 0 ∧ (u.typist 0).current = some 0) :=
  ⟨parking_lawful.1, switching_lawful.1, by decide +kernel⟩

/-- An OFFER to a typist without a take; a SWITCH to one with a take; a take that is not pending but current in
TYPING, and one that is neither, which ACCEPT and DECLINE answer EXPIRED; a stale handle. -/
theorem witness_AcceptAndDecline :
    onSettled offered (fun u => u.stationReady (typistDrop 0) ∧ (u.typist 0).state ≠ .off ∧
        u.resolve 0 = some 0 ∧ (u.typist 0).pending = some ⟨0, .offer⟩ ∧
        (u.typist 0).current = none) ∧
      onSettled switching (fun u => u.stationReady (typistDrop 0) ∧ (u.typist 0).state ≠ .off ∧
        u.resolve 1 = some 1 ∧ (u.typist 0).pending = some ⟨1, .switch⟩ ∧
        (u.typist 0).current = some 0 ∧ (u.typist 0).context = some context ∧
        u.resolve 0 = some 0 ∧ (u.typist 0).pending.map Pending.take ≠ some 0) ∧
      onSettled typing (fun u => u.stationReady (typistDrop 0) ∧ (u.typist 0).state ≠ .off ∧
        u.resolve 0 = some 0 ∧ (u.typist 0).pending.map Pending.take ≠ some 0 ∧
        (u.typist 0).current = some 0 ∧ (u.take 0).state = .typing ∧
        (u.typist 0).context = some context) ∧
      onSettled returned (fun u => u.stationReady (typistDrop 0) ∧ (u.typist 0).state ≠ .off ∧
        u.resolve 0 = some 0 ∧ (u.typist 0).pending.map Pending.take ≠ some 0 ∧
        (u.typist 0).current ≠ some 0) ∧
      onSettled offered (fun u => u.resolve 0xFFFF = none) := by decide +kernel

/-- A full queue, an ABSENT drop and a step. -/
theorem witness_LinkLawIsKept :
    let cue (n : Nat) : Message := .cue ⟨⟨0, 0⟩, n, query⟩
    let s : State := { dropped 24 (fun r => { r with out := [.withdraw [], cue 2, cue 3, cue 4], misses := 2 })
      (dropped 25 (fun r => { r with state := .absent, rollCall := some 0 }) typing) with
      pending := [.doneTake 0 0] }
    s.linkLaw ∧ (∀ d, (s.drop d).law) ∧ see (step s) (fun _ => true) = some true := by decide +kernel

/-- The laws hold of the office, and a step is taken. -/
theorem witness_RecordLawsAreKept_roster :
    let s : State := { office with pending := [.endSession 7] }
    s.rosterLaw ∧ s.params.inRange ∧
      (∀ c, ∀ x ∈ (s.console c).bound, (s.session x).console = some c ∧
        ((s.session x).state = .bound ∨ (s.session x).state = .recording)) ∧
      see (step s) (fun _ => true) = some true := by decide +kernel

theorem placing_directoryLaw : placing.directoryLaw := by
  refine ⟨placing_takes ?_ ?_ ?_ ?_, by decide +kernel⟩ <;> unfold Take.law
  iterate 3 decide +kernel
  exact fun _ _ => by decide +kernel

theorem placing_orderLaw : placing.orderLaw := by unfold State.orderLaw; decide +kernel

theorem placing_coverLaw : placing.coverLaw := by
  intro n i h
  obtain ⟨a, b, ⟨c, rfl, d⟩ | ⟨c, d⟩⟩ := placing_typists.2 n
  · simp only [a, b, c, Option.map_none, reduceCtorEq, or_false, false_or, Option.some.injEq] at h
    subst h
    decide +kernel
  · simp [a, b, c] at h

theorem placing_bindingLaw : placing.bindingLaw := by
  intro c x h
  have := (by decide +kernel : ∀ c, ∀ x ∈ (placing.console c).bound,
    (placing.session x).console = some c ∧
      ((placing.session x).state = .bound ∨ (placing.session x).state = .recording))
  exact this c x h

/-- The laws hold of an office with a typed take, a RUSH take and a plain one, and the step that places both
is taken. -/
theorem witness_RecordLawsAreKept :
    let s : State := { placing with pending := [.placementPass] }
    s.holdLaw ∧ s.bindingLaw ∧ s.rosterLaw ∧ s.directoryLaw ∧ s.orderLaw ∧ s.coverLaw ∧
      ∃ t, step s = .next t :=
  ⟨placing_holdLaw, placing_bindingLaw, (by decide +kernel : placing.rosterLaw), placing_directoryLaw,
    placing_orderLaw, placing_coverLaw, ⟨_, rfl⟩⟩

/-- The laws hold of a recording office with a grace at 0, and a step is taken. -/
theorem witness_HoldLawIsKept :
    let s : State := { graceOver with pending := [.consoleGraceExpiry] }
    s.holdLaw ∧ s.bindingLaw ∧ ∃ t, step s = .next t :=
  ⟨graceOver_holdLaw, graceOver_bindingLaw, ⟨_, rfl⟩⟩

/-- The laws hold, the context law among them, where a take is parked, and a step is taken. -/
theorem witness_HoldLawIsKept_contexts :
    let s : State := { parking with pending := [.doneTake 0 1] }
    s.holdLaw ∧ s.bindingLaw ∧ s.contextLaw ∧ ∃ t, step s = .next t := by
  have h : lawful parking := settled_of_not_due (s := parking) rfl ▸ parking_lawful
  refine ⟨h.1, fun c x b => ?_, h.2.1, ⟨_, rfl⟩⟩
  have := (by decide +kernel : ∀ c, ∀ x ∈ (parking.console c).bound,
    (parking.session x).console = some c ∧
      ((parking.session x).state = .bound ∨ (parking.session x).state = .recording))
  exact this c x b

end Sys2Proof.Tests
end

/-! How a host request is taken, and SET-CLOCK (R88). -/
section
namespace Sys2Proof.Machine

/-- A request for which the port is ready is handed to its owner in the settled state, and its answer waits
in the slot (R157, R158). -/
theorem host_of_hostReady {s : State} {i : Instr} (work : State → Result × State) (h : s.hostReady i) :
    host i work s =
      (work s.settled).2.respond ((work s.settled).1.toAnswer (requestCode i)) := by
  have ready : s.settled.slot = .empty ∨ s.settled.slot = .inProgress i := by
    simpa [State.hostReady] using h
  simp only [host, if_pos ready]

/-- A host SET-CLOCK for which the port is ready: the work in the settled state, answered under code 01h. -/
theorem exec_setClock_of_hostReady {s : State} {v : Option Quad} (h : s.hostReady (.setClock v)) :
    exec (.setClock v) s =
      .next ((setClockWork v s.settled).2.respond ((setClockWork v s.settled).1.toAnswer 0x01)) :=
  congrArg Host.Outcome.next (host_of_hostReady (setClockWork v) h)

/-- Each typist record has its stamps moved by the amount the clock moves (R74, R88). -/
@[simp] theorem State.setOfficeTime_typist (s : State) (v : Nat) (t : TypistIx) :
    (s.setOfficeTime v).typist t = moveTypist s.officeTime v (s.typist t) := by
  simp [State.setOfficeTime, State.typist]

/-- Each console's running drift window restarts at the new time (R39, R88). -/
@[simp] theorem State.setOfficeTime_console (s : State) (v : Nat) (c : ConsoleIx) :
    (s.setOfficeTime v).console c = restartWindow v (s.console c) := by
  simp [State.setOfficeTime, State.console]

/-- Settles O13: both requests are run by `exec_setClock_of_hostReady`; with a value the records are read back
through `setOfficeTime`, whose `moveStamp` is the obligation's `move`. -/
theorem setClock : Obligations.SetClock := by
  intro s
  refine ⟨fun ready => exec_setClock_of_hostReady ready, fun v ready => ?_⟩
  refine ⟨_, exec_setClock_of_hostReady ready, rfl, rfl, fun n => ?typists, fun c => ?consoles, rfl⟩
  case typists => exact State.setOfficeTime_typist s.settled v.toNat n
  case consoles => exact State.setOfficeTime_console s.settled v.toNat c

end Sys2Proof.Machine
end

/-! The supervisor port: READ-PARAM, CLEAR-COUNTS, and its read and write transactions (R158 to R165). -/
section
namespace Sys2Proof.Machine

/-! ### The parameter table (R161, R162) -/

/-- The parameters are numbered 1 to 12 (10.3). -/
theorem paramRange_eq_none_iff {n : Nat} : paramRange n = none ↔ n < 1 ∨ 12 < n := by
  unfold paramRange
  split
  case h_13 => grind
  all_goals simp

/-- What READ-PARAM adds to the value, with parameter 10 named first (R162). -/
theorem State.paramFields_eq (s : State) (n : Nat) :
    s.paramFields n =
      if n = 10 then [.half s.lastAuditSum, .flag s.auditFailure, .flag s.clearanceLock]
      else if n = 9 then optional s.auditCountdown (fun k => [.half k])
      else [] := by
  unfold State.paramFields
  by_cases h : n = 10
  · simp [h]
  · simp only [if_neg h]

/-- The answer of READ-PARAM, which leaves the state as it is (R162). -/
theorem readParamWork_eq (n : Byte) (s : State) :
    readParamWork n s =
      (if n.toNat < 1 ∨ 12 < n.toNat then Result.of .unknown
        else .ok false ([.small n.toNat, .quad (s.params.get n.toNat)] ++ s.paramFields n.toNat), s) := by
  unfold readParamWork
  split
  next undefined => rw [if_pos (paramRange_eq_none_iff.mp undefined), refuse]
  next _ defined =>
    have in_table : ¬(n.toNat < 1 ∨ 12 < n.toNat) := by
      rw [← paramRange_eq_none_iff, defined]; exact nofun
    rw [if_neg in_table]

/-- Settles O5: the port hands the request on, and its work is `readParamWork_eq`. -/
theorem readParam : Obligations.ReadParam := by
  intro s n ready
  have taken : exec (.readParam n) s = _ :=
    congrArg Host.Outcome.next (host_of_hostReady (readParamWork n) ready)
  rw [taken, readParamWork_eq, State.paramFields_eq]
  dsimp only
  split
  · rfl
  · cases s.settled.auditCountdown <;> rfl

/-! ### Counters (R165) -/

/-- Settles O8: the three maps of `clearCountsWork`, read back record by record. -/
theorem clearCounts : Obligations.ClearCounts := by
  refine ⟨fun s ready => ?cleared, fun d => ?drops, fun n => ?typists, fun i => ?takes⟩
  case cleared =>
    refine ⟨_, congrArg Host.Outcome.next (host_of_hostReady clearCountsWork ready), rfl,
      fun d => ?_, fun n => ?_, fun i => ?_, rfl⟩
    · simp [clearCountsWork, State.drop, zeroLinkErrors]
    · simp [clearCountsWork, State.typist, zeroCounts]
    · simp [clearCountsWork, State.take, zeroMarksLost]
  case drops => simp [State.drop, State.reset, Drop.reset]
  case typists => simp [State.typist, State.reset, Typist.reset]
  case takes => simp [State.take, State.reset, Take.freeAt]

/-! ### Transactions (R158 to R160) -/

/-- A transaction of one FFh byte or more is a read (R158). -/
theorem State.transaction_of_read (s : State) {n : Nat} (pos : 0 < n) :
    s.transaction (List.replicate n 0xFF#8) = s.read n := by
  have some_byte : List.replicate n (0xFF#8) ≠ [] := by simp; omega
  simp [State.transaction, some_byte]

/-- A transaction with a byte other than FFh is a write (R158). -/
theorem State.transaction_of_write (s : State) {bytes : List Byte} (h : bytes.any (· ≠ 0xFF#8) = true) :
    s.transaction bytes = s.write bytes := by
  obtain ⟨b, mem, other⟩ := List.any_eq_true.mp h
  have some_byte : bytes ≠ [] := List.ne_nil_of_mem mem
  have not_read : ¬bytes.all (· = 0xFF#8) = true := fun all =>
    of_decide_eq_true other (of_decide_eq_true (List.all_eq_true.mp all b mem))
  rw [State.transaction, if_neg some_byte, if_neg not_read]

/-- A read while a response waits: read out in full it is removed (R159). -/
theorem State.read_of_response {s : State} {a : Answer} (h : s.slot = .responseWaiting a) (n : Nat) :
    s.read n = { s with
      miso := shiftedOut n a.responseFrame
      slot := if a.responseFrame.length ≤ n then .empty else .responseWaiting a } := by
  simp only [State.read, State.buffer, h]
  split
  · rfl
  · rw [← h]

/-- A read while no response waits shifts out the no-response frame and changes nothing else (R159, R168). -/
theorem State.read_of_no_response {s : State} (h : ∀ a, s.slot ≠ .responseWaiting a) (n : Nat) :
    s.read n = { s with miso := shiftedOut n noResponse } := by
  unfold State.read State.buffer
  cases slot : s.slot with
  | responseWaiting a => exact (h a slot).elim
  | empty => rfl
  | inProgress i => rfl

/-- Settles O9: FFh bytes are a read, and the pass taken first leaves the slot alone. -/
theorem spiRead : Obligations.SpiRead := by
  intro s n pos
  have run : exec (.spiRead n) s = .next (s.settled.read n) :=
    congrArg Host.Outcome.next (s.settled.transaction_of_read pos)
  have slot : s.settled.slot = s.slot := by simp
  dsimp only
  split
  next a waiting => rw [run, State.read_of_response (slot.trans waiting)]; rfl
  next no_response => rw [run, State.read_of_no_response (by simpa using no_response)]; rfl

/-- A write that finds the slot EMPTY raises no event (R158, R160). -/
theorem State.write_events_of_empty {s : State} (h : s.slot = .empty) (bytes : List Byte) :
    (s.write bytes).events = s.events := by
  rw [State.write, if_pos h]

/-- A write that finds the slot busy is ignored, with SUPERVISOR-OVERRUN raised (R160). -/
theorem State.write_of_busy {s : State} (h : s.slot ≠ .empty) (bytes : List Byte) :
    s.write bytes =
      ({ s with miso := shiftedOut bytes.length s.buffer } : State).raise .supervisorOverrun := by
  rw [State.write, if_neg h]

/-- Settles O11: bytes that are not all FFh are a write, which the slot either takes or overruns. -/
theorem busySlotIsAnOverrun : Obligations.BusySlotIsAnOverrun := by
  intro s bytes other
  have run : exec (.requestFrame bytes) s = .next (s.settled.write bytes) :=
    congrArg Host.Outcome.next (s.settled.transaction_of_write other)
  have slot : s.settled.slot = s.slot := by simp
  refine ⟨fun busy => ⟨_, run, ?_⟩, fun empty => ⟨_, run, ?_⟩⟩
  · rw [State.write_of_busy (slot ▸ busy)]
    exact ⟨rfl, rfl⟩
  · exact State.write_events_of_empty (slot.trans empty) bytes

end Sys2Proof.Machine
end

/-!
The event flags (R163, R164). A flag is sticky: where an operation's frame in `Laws/Frames.lean` leaves the flag
word as it was there is nothing to say, and every other operation has a lemma here that a flag position that is
set stays set. They are conditional `simp` lemmas, so that an operation made of others follows from theirs.
-/
section
namespace Sys2Proof.Machine

@[simp] theorem refuse_state (st : AnswerStatus) (s : State) : (refuse st s).2 = s := rfl

@[simp] theorem refuseRaise_state (clamped : Bool) (s : State) : (refuseRaise clamped s).2 = s := rfl

@[simp] theorem withFlag_keeps_flag {w : BitVec 14} {k : Nat} (h : w.getLsbD k = true) (e : Event) :
    (withFlag w e).getLsbD k = true := by
  simp [withFlag, h]

/-- A fold keeps a flag that each of its steps keeps. -/
theorem foldl_keeps_flag {α : Type} {k : Nat} {f : State → α → State}
    (step : ∀ s a, s.events.getLsbD k = true → (f s a).events.getLsbD k = true) (l : List α) {s : State}
    (h : s.events.getLsbD k = true) : (l.foldl f s).events.getLsbD k = true := by
  induction l generalizing s with
  | nil => exact h
  | cons a l ih => exact ih (step s a h)

section
variable {s : State} {k : Nat} (h : s.events.getLsbD k = true)
include h

/-! ### Takes and their status -/

@[simp] theorem State.raiseSome_keeps_flag (e : Option Event) :
    (s.raiseSome e).events.getLsbD k = true := by
  cases e with
  | none => exact h
  | some e => exact withFlag_keeps_flag h e

@[simp] theorem State.raiseWhen_keeps_flag (b : Bool) (e : Event) :
    (s.raiseWhen b e).events.getLsbD k = true := by
  cases b with
  | false => exact h
  | true => exact withFlag_keeps_flag h e

@[simp] theorem State.restatus_keeps_flag (i : TakeIx) : (s.restatus i).events.getLsbD k = true := by
  simp [State.restatus, h]

@[simp] theorem State.recompute_keeps_flag (i : TakeIx) : (s.recompute i).events.getLsbD k = true := by
  simp [State.recompute, h]

@[simp] theorem State.recomputeSome_keeps_flag (i : Option TakeIx) :
    (s.recomputeSome i).events.getLsbD k = true := by
  cases i with
  | none => exact h
  | some i => exact State.recompute_keeps_flag h i

@[simp] theorem State.heldReturns_keeps_flag (i : TakeIx) : (s.heldReturns i).events.getLsbD k = true := by
  simp [State.heldReturns, h]

@[simp] theorem State.closeRecord_keeps_flag (i : TakeIx) (n : Nat) (cut : Bool) :
    (s.closeRecord i n cut).events.getLsbD k = true := by
  simp [State.closeRecord, h]

@[simp] theorem State.requeue_keeps_flag (i : TakeIx) (n : Nat) :
    (s.requeue i n).events.getLsbD k = true := by
  simp [State.requeue, h]

@[simp] theorem State.returnTake_keeps_flag (i : TakeIx) : (s.returnTake i).events.getLsbD k = true := by
  simp [State.returnTake, h]

@[simp] theorem State.lengthen_keeps_flag (i : TakeIx) (n : Nat) :
    (s.lengthen i n).events.getLsbD k = true := by
  simp [State.lengthen, h]

@[simp] theorem State.setDeadline_keeps_flag (i : TakeIx) (n : Nat) :
    (s.setDeadline i n).events.getLsbD k = true := by
  unfold State.setDeadline
  dsimp only
  split <;> simp [h]

@[simp] theorem State.rushTake_keeps_flag (i : TakeIx) : (s.rushTake i).events.getLsbD k = true := by
  unfold State.rushTake
  dsimp only
  repeat' split
  all_goals simp [h]

@[simp] theorem State.officeRatioChanged_keeps_flag : s.officeRatioChanged.events.getLsbD k = true := by
  simp only [State.officeRatioChanged, State.triggerPass_events, State.rebuildQueue_events]
  exact foldl_keeps_flag (fun _ i kept => State.recompute_keeps_flag kept i) _ h

/-! ### Marks -/

@[simp] theorem State.loseMark_keeps_flag (i : TakeIx) : (s.loseMark i).events.getLsbD k = true := by
  simp [State.loseMark, h]

@[simp] theorem State.insertMark_keeps_flag (i : TakeIx) (n : NewMark) (answer : Bool) :
    (s.insertMark i n answer).2.events.getLsbD k = true := by
  unfold State.insertMark
  dsimp only
  repeat' split
  all_goals simp [h]

theorem State.insertMark_keeps_flag_of_eq {i : TakeIx} {n : NewMark} {answer : Bool} {r : Inserted}
    {s' : State} (inserted : s.insertMark i n answer = (r, s')) : s'.events.getLsbD k = true := by
  simpa [inserted] using State.insertMark_keeps_flag h i n answer

@[simp] theorem State.insertSealStart_keeps_flag (i : TakeIx) (n : Nat) (l : Level) (w : Option Text)
    (z : Source) : (s.insertSealStart i n l w z).2.events.getLsbD k = true := by
  have raised : (s.modTake i (sealEffect l)).events.getLsbD k = true := h
  unfold State.insertSealStart
  dsimp only
  split
  next lost => simp [State.insertMark_keeps_flag_of_eq raised lost]
  next => exact State.insertMark_keeps_flag raised _ _ _

@[simp] theorem State.countQuery_keeps_flag (i : TakeIx) : (s.countQuery i).events.getLsbD k = true := by
  simp [State.countQuery, h]

@[simp] theorem State.bookmark_keeps_flag (c : ConsoleIx) (i : TakeIx) (m : Mark) :
    (s.bookmark c i m).2.events.getLsbD k = true := by
  unfold State.bookmark
  dsimp only
  repeat' split
  all_goals simp [h]

/-! ### Typists -/

@[simp] theorem State.resumeParked_keeps_flag (t : TypistIx) (p : TakeIx) :
    (s.resumeParked t p).events.getLsbD k = true := by
  simp [State.resumeParked, h]

@[simp] theorem State.beginTyping_keeps_flag (t : TypistIx) (i : TakeIx) :
    (s.beginTyping t i).events.getLsbD k = true := by
  simp [State.beginTyping, h]

@[simp] theorem State.currentLeaves_keeps_flag (t : TypistIx) (i : TakeIx) :
    (s.currentLeaves t i).2.events.getLsbD k = true := by
  unfold State.currentLeaves
  dsimp only
  split <;> simp [h]

@[simp] theorem State.withdrawParked_keeps_flag (t : TypistIx) :
    (s.withdrawParked t).events.getLsbD k = true := by
  unfold State.withdrawParked
  split <;> simp [h]

@[simp] theorem State.withdrawCurrent_keeps_flag (t : TypistIx) :
    (s.withdrawCurrent t).events.getLsbD k = true := by
  unfold State.withdrawCurrent
  dsimp only
  repeat' split
  all_goals simp [h]

@[simp] theorem State.withdrawHeld_keeps_flag (i : TakeIx) :
    (s.withdrawHeld i).events.getLsbD k = true := by
  unfold State.withdrawHeld
  split <;> simp [h]

@[simp] theorem State.signOffRecord_keeps_flag (t : TypistIx) :
    (s.signOffRecord t).events.getLsbD k = true := by
  unfold State.signOffRecord
  dsimp only
  repeat' split
  all_goals simp [h]

@[simp] theorem State.typistGraceEnds_keeps_flag (t : TypistIx) :
    (s.typistGraceEnds t).events.getLsbD k = true := by
  simp [State.typistGraceEnds, h]

@[simp] theorem State.sampleWithTakes_keeps_flag (t : TypistIx) (p : Nat) :
    (s.sampleWithTakes t p).events.getLsbD k = true := by
  unfold State.sampleWithTakes
  dsimp only
  split <;> simp [h]

@[simp] theorem State.relevel_keeps_flag (i : TakeIx) (l : Level) :
    (s.relevel i l).events.getLsbD k = true := by
  unfold State.relevel
  dsimp only
  split <;> simp [h]

@[simp] theorem State.withdrawUncovered_keeps_flag (t : TypistIx) :
    (s.withdrawUncovered t).events.getLsbD k = true := by
  unfold State.withdrawUncovered
  dsimp only
  repeat' split
  all_goals simp [h]

@[simp] theorem State.setRatio_keeps_flag (t : TypistIx) (b : Option Byte) :
    (s.setRatio t b).events.getLsbD k = true := by
  unfold State.setRatio
  dsimp only
  split <;> simp [h]

@[simp] theorem State.applyTypist_keeps_flag (t : TypistIx) (a b c : Option Byte) :
    (s.applyTypist t a b c).events.getLsbD k = true := by
  unfold State.applyTypist
  dsimp only
  repeat' split
  all_goals simp [h]

/-! ### Sessions and consoles -/

@[simp] theorem State.closeSession_keeps_flag (x : SessionIx) (final : Take → Nat) (cut carries : Bool) :
    (s.closeSession x final cut carries).events.getLsbD k = true := by
  unfold State.closeSession
  dsimp only
  repeat' split
  all_goals simp [h]

@[simp] theorem State.cutShortClose_keeps_flag (c : ConsoleIx) :
    (s.cutShortClose c).events.getLsbD k = true := by
  unfold State.cutShortClose
  dsimp only
  repeat' split
  all_goals simp [h]

@[simp] theorem State.driftFails_keeps_flag (c : ConsoleIx) :
    (s.driftFails c).events.getLsbD k = true := by
  unfold State.driftFails
  dsimp only
  repeat' split
  all_goals simp [h]

@[simp] theorem State.checkWindow_keeps_flag (c : ConsoleIx) :
    (s.checkWindow c).events.getLsbD k = true := by
  unfold State.checkWindow
  dsimp only
  repeat' split
  all_goals simp [h]

@[simp] theorem State.fallingCode_keeps_flag (c : ConsoleIx) (n : Nat) :
    (s.fallingCode c n).events.getLsbD k = true := by
  unfold State.fallingCode
  repeat' split
  all_goals simp [h]

@[simp] theorem State.openInSlot_keeps_flag (c : ConsoleIx) (x : SessionIx) (i : TakeIx) :
    (s.openInSlot c x i).events.getLsbD k = true := by
  unfold State.openInSlot
  dsimp only
  split <;> simp [h]

@[simp] theorem State.tryOpen_keeps_flag (c : ConsoleIx) (x : SessionIx) :
    (s.tryOpen c x).2.events.getLsbD k = true := by
  unfold State.tryOpen
  repeat' split
  all_goals simp [h]

theorem State.tryOpen_keeps_flag_of_eq {c : ConsoleIx} {x : SessionIx} {i : Option TakeIx} {s' : State}
    (tried : s.tryOpen c x = (i, s')) : s'.events.getLsbD k = true := by
  simpa [tried] using State.tryOpen_keeps_flag h c x

@[simp] theorem State.endSession_keeps_flag (x : SessionIx) :
    (s.endSession x).events.getLsbD k = true := by
  unfold State.endSession
  dsimp only
  repeat' split
  all_goals simp [h]

/-! ### The placement pass -/

@[simp] theorem State.rushWaits_keeps_flag (i : TakeIx) : (s.rushWaits i).events.getLsbD k = true := by
  unfold State.rushWaits
  split <;> simp [h]

@[simp] theorem State.secondWalk_keeps_flag (es : List QueueEntry) :
    (s.secondWalk es).events.getLsbD k = true := by
  induction es generalizing s with
  | nil => exact h
  | cons e es ih =>
    unfold State.secondWalk
    split
    next => exact ih (State.rushWaits_keeps_flag h e.take)
    next => exact ih (by simpa using h)

@[simp] theorem State.placementPass_keeps_flag : s.placementPass.events.getLsbD k = true := by
  simp [State.placementPass, h]

@[simp] theorem State.settled_keeps_flag : s.settled.events.getLsbD k = true := by
  unfold State.settled
  split <;> simp [h]

/-! ### The tick and its expiries -/

@[simp] theorem State.typistGraceExpiries_keeps_flag :
    s.typistGraceExpiries.events.getLsbD k = true :=
  foldl_keeps_flag (fun _ _ kept => by split <;> simp [kept]) _ h

@[simp] theorem State.consoleGraceExpiries_keeps_flag :
    s.consoleGraceExpiries.events.getLsbD k = true :=
  foldl_keeps_flag (fun _ _ kept => by split <;> simp [kept]) _ h

@[simp] theorem State.driftChecks_keeps_flag : s.driftChecks.events.getLsbD k = true :=
  foldl_keeps_flag (fun _ _ kept => by split <;> simp [kept]) _ h

@[simp] theorem State.audit_keeps_flag : s.audit.events.getLsbD k = true := by
  unfold State.audit
  dsimp only
  repeat' split
  all_goals simp [h]

@[simp] theorem State.auditExpiry_keeps_flag : s.auditExpiry.events.getLsbD k = true := by
  unfold State.auditExpiry
  split <;> simp [h]

theorem State.finishTick_keeps_flag : s.finishTick.events.getLsbD k = true := by
  have offers : s.offerExpiries.settled.events.getLsbD k = true := by simp [h]
  have graces := State.settled_keeps_flag (State.typistGraceExpiries_keeps_flag offers)
  have consoles := State.consoleGraceExpiries_keeps_flag (State.driftChecks_keeps_flag graces)
  exact State.settled_keeps_flag (State.auditExpiry_keeps_flag (State.settled_keeps_flag consoles))

theorem State.tick_keeps_flag : s.tick.events.getLsbD k = true := by
  simp [State.tick, State.monitor, h]

/-! ### The drop link -/

@[simp] theorem State.consoleLeaves_keeps_flag (c : ConsoleIx) :
    (s.consoleLeaves c).events.getLsbD k = true := by
  unfold State.consoleLeaves
  dsimp only
  repeat' split
  all_goals simp [h]

@[simp] theorem State.typistLeaves_keeps_flag (t : TypistIx) :
    (s.typistLeaves t).events.getLsbD k = true := by
  unfold State.typistLeaves
  dsimp only
  repeat' split
  all_goals simp [h]

@[simp] theorem State.goAbsent_keeps_flag (d : DropIx) : (s.goAbsent d).events.getLsbD k = true := by
  unfold State.goAbsent
  dsimp only
  split <;> simp [h]

@[simp] theorem State.miss_keeps_flag (d : DropIx) : (s.miss d).events.getLsbD k = true := by
  unfold State.miss
  dsimp only
  repeat' split
  all_goals simp [h]

@[simp] theorem State.replyMiss_keeps_flag : s.replyMiss.events.getLsbD k = true := by
  unfold State.replyMiss
  split <;> simp [h]

@[simp] theorem State.takeTimeCode_keeps_flag (c : ConsoleIx) (r : Reply) :
    (s.takeTimeCode c r).events.getLsbD k = true := by
  unfold State.takeTimeCode
  dsimp only
  repeat' split
  all_goals simp [h]

@[simp] theorem State.statusTaken_keeps_flag (d : DropIx) (r : Reply) :
    (s.statusTaken d r).events.getLsbD k = true := by
  unfold State.statusTaken
  split <;> simp [h]

@[simp] theorem State.consoleDisabled_keeps_flag (c : ConsoleIx) :
    (s.consoleDisabled c).events.getLsbD k = true := by
  simp [State.consoleDisabled, h]

@[simp] theorem State.typistDisabled_keeps_flag (t : TypistIx) :
    (s.typistDisabled t).events.getLsbD k = true := by
  unfold State.typistDisabled
  dsimp only
  split <;> simp [h]

@[simp] theorem State.disableDrop_keeps_flag (d : DropIx) :
    (s.disableDrop d).events.getLsbD k = true := by
  unfold State.disableDrop
  dsimp only
  split <;> simp [h]

/-! ### The supervisor port -/

@[simp] theorem State.parameterTold_keeps_flag (n before : Nat) :
    (s.parameterTold n before).events.getLsbD k = true := by
  unfold State.parameterTold
  repeat' split
  all_goals simp [h]

@[simp] theorem State.write_keeps_flag (bytes : List Byte) :
    (s.write bytes).events.getLsbD k = true := by
  unfold State.write
  dsimp only
  split <;> simp [h]

@[simp] theorem State.transaction_keeps_flag (bytes : List Byte) :
    (s.transaction bytes).events.getLsbD k = true := by
  unfold State.transaction
  repeat' split
  all_goals simp [h]

/-! ### The owners' work -/

@[simp] theorem openWork_keeps_flag (c : ConsoleIx) : (openWork c s).2.events.getLsbD k = true := by
  unfold openWork
  repeat' split
  next => exact h
  next => exact h
  next tried => exact State.tryOpen_keeps_flag_of_eq h tried
  next tried => exact State.tryOpen_keeps_flag_of_eq h tried

@[simp] theorem rollOpens_keeps_flag (c : ConsoleIx) (x : SessionIx) (clamped : Bool)
    (closed : Option Handle) : (rollOpens c x clamped closed s).2.events.getLsbD k = true := by
  unfold rollOpens
  split
  next tried => exact State.tryOpen_keeps_flag_of_eq h tried
  next tried => exact State.tryOpen_keeps_flag_of_eq h tried

@[simp] theorem closeWork_keeps_flag (c : ConsoleIx) (n : Half) :
    (closeWork c n s).2.events.getLsbD k = true := by
  unfold closeWork
  repeat' split
  all_goals simp [h]

@[simp] theorem rollWork_keeps_flag (c : ConsoleIx) (n : Half) :
    (rollWork c n s).2.events.getLsbD k = true := by
  unfold rollWork
  repeat' split
  all_goals simp [h]

@[simp] theorem storeMark_keeps_flag (c : ConsoleIx) (i : TakeIx) (m : MarkKind) (o : Half)
    (a : Option Byte) (l : Option Text) (cut : Bool) :
    (storeMark c i m o a l cut s).2.events.getLsbD k = true := by
  unfold storeMark
  dsimp only
  split <;> simp [h]

@[simp] theorem markWork_keeps_flag (c : ConsoleIx) (x : Half) (m : Byte) (o : Half) (a : Option Byte)
    (l : Option Text) : (markWork c x m o a l s).2.events.getLsbD k = true := by
  unfold markWork
  dsimp only
  repeat' split
  all_goals simp [h]

@[simp] theorem sealWork_keeps_flag (c : ConsoleIx) (v : Byte) (l : Option Text) :
    (sealWork c v l s).2.events.getLsbD k = true := by
  unfold sealWork
  dsimp only
  repeat' split
  all_goals simp [h]

@[simp] theorem unsealWork_keeps_flag (c : ConsoleIx) (l : Option Text) :
    (unsealWork c l s).2.events.getLsbD k = true := by
  unfold unsealWork
  repeat' split
  next => exact h
  all_goals next inserted => simp [State.insertMark_keeps_flag_of_eq h inserted]

@[simp] theorem resolveMark_keeps_flag (i : TakeIx) (q : Mark) (z : Source) (l : Option Text) (cut : Bool) :
    (resolveMark i q z l cut s).2.events.getLsbD k = true := by
  unfold resolveMark
  dsimp only
  repeat' split
  all_goals simp [h]

@[simp] theorem resolveChecked_keeps_flag (mine : Option SessionIx) (z : Source) (x m : Half)
    (l : Option Text) : (resolveChecked mine z x m l s).2.events.getLsbD k = true := by
  unfold resolveChecked
  dsimp only
  repeat' split
  all_goals simp [h]

@[simp] theorem resolveWork_keeps_flag (a : Asker) (x m : Half) (l : Option Text) :
    (resolveWork a x m l s).2.events.getLsbD k = true := by
  unfold resolveWork
  repeat' split
  all_goals simp [h]

@[simp] theorem locateWork_keeps_flag (c : ConsoleIx) (m a : Option Byte) (b : Option Quad)
    (q : Option Byte) (set : Bool) : (locateWork c m a b q set s).2.events.getLsbD k = true := by
  unfold locateWork
  dsimp only
  repeat' split
  all_goals simp [h]

@[simp] theorem signOffWork_keeps_flag (t : TypistIx) : (signOffWork t s).2.events.getLsbD k = true := by
  unfold signOffWork
  split <;> simp [h]

@[simp] theorem checkpointWork_keeps_flag (t : TypistIx) (x p : Half) :
    (checkpointWork t x p s).2.events.getLsbD k = true := by
  unfold checkpointWork
  dsimp only
  repeat' split
  all_goals simp [h]

@[simp] theorem queryWork_keeps_flag (t : TypistIx) (x : Half) (o : Option Half) (a : Option Byte)
    (l : Option Text) : (queryWork t x o a l s).2.events.getLsbD k = true := by
  unfold queryWork
  dsimp only
  repeat' split
  next => exact h
  next => exact h
  all_goals next inserted => simp [State.insertMark_keeps_flag_of_eq h inserted]

@[simp] theorem acceptWork_keeps_flag (t : TypistIx) (x : Half) :
    (acceptWork t x s).2.events.getLsbD k = true := by
  unfold acceptWork
  dsimp only
  repeat' split
  all_goals simp [h]

@[simp] theorem rushWork_keeps_flag (c : ConsoleIx) (x : Half) :
    (rushWork c x s).2.events.getLsbD k = true := by
  unfold rushWork
  repeat' split
  all_goals simp [h]

theorem doneRequest_keeps_flag (t : TypistIx) (x : Half) :
    (doneRequest t x s).events.getLsbD k = true := by
  unfold doneRequest
  dsimp only
  split
  next => simp [h]
  next i _ =>
    have returned := State.returnTake_keeps_flag (State.sampleWithTakes_keeps_flag
      (s := s.modTake i (fun k => { k with typedTo := k.length })) h t (s.take i).length) i
    simpa using State.currentLeaves_keeps_flag returned t i

theorem releaseRequest_keeps_flag (t : TypistIx) (x : Half) :
    (releaseRequest t x s).events.getLsbD k = true := by
  unfold releaseRequest
  dsimp only
  split <;> simp [h]

@[simp] theorem setParamWork_keeps_flag (n : Byte) (v : Quad) :
    (setParamWork n v s).2.events.getLsbD k = true := by
  unfold setParamWork
  dsimp only
  split <;> simp [h]

@[simp] theorem endSessionWork_keeps_flag (n : Half) : (endSessionWork n s).2.events.getLsbD k = true := by
  unfold endSessionWork
  repeat' split
  all_goals simp [h]

@[simp] theorem setDeadlineWork_keeps_flag (x : Half) (d : Quad) :
    (setDeadlineWork x d s).2.events.getLsbD k = true := by
  unfold setDeadlineWork
  dsimp only
  repeat' split
  all_goals simp [h]

@[simp] theorem setClassWork_keeps_flag (x : Half) (b : Byte) :
    (setClassWork x b s).2.events.getLsbD k = true := by
  unfold setClassWork
  dsimp only
  repeat' split
  all_goals simp [h]

@[simp] theorem withdrawWork_keeps_flag (x : Half) : (withdrawWork x s).2.events.getLsbD k = true := by
  unfold withdrawWork
  repeat' split
  all_goals simp [h]

@[simp] theorem requeueWork_keeps_flag (x p : Half) : (requeueWork x p s).2.events.getLsbD k = true := by
  unfold requeueWork
  dsimp only
  repeat' split
  all_goals simp [h]

@[simp] theorem relevelWork_keeps_flag (x : Half) (b : Byte) :
    (relevelWork x b s).2.events.getLsbD k = true := by
  unfold relevelWork
  dsimp only
  repeat' split
  all_goals simp [h]

@[simp] theorem setTypistWork_keeps_flag (n : Byte) (a b c : Option Byte) :
    (setTypistWork n a b c s).2.events.getLsbD k = true := by
  unfold setTypistWork
  dsimp only
  repeat' split
  all_goals simp [h]

@[simp] theorem disableDropWork_keeps_flag (n : Byte) :
    (disableDropWork n s).2.events.getLsbD k = true := by
  unfold disableDropWork
  repeat' split
  all_goals simp [h]

end

/-! ### From an owner's work to the command -/

/-- An operation keeps the event flags: every flag set before it is set after it (R163). -/
def KeepsFlags (f : State → State) : Prop :=
  ∀ (s : State) (k : Nat), s.events.getLsbD k = true → (f s).events.getLsbD k = true

/-- A host's request keeps the flags where its work does; an overrun raises one (R160). -/
theorem host_keepsFlags (i : Instr) {work : State → Result × State}
    (kept : KeepsFlags fun s => (work s).2) : KeepsFlags (host i work) := by
  intro s k h
  unfold host
  dsimp only
  split
  next => exact kept _ k (State.settled_keeps_flag h)
  next => simp [h]

theorem answered_keepsFlags (d : DropIx) (code : Nat) {work : State → Result × State}
    (kept : KeepsFlags fun s => (work s).2) : KeepsFlags (answered d code work) := fun s k h => by
  simpa [answered] using kept s k h

theorem intake_keepsFlags (d : DropIx) {handle : State → State} (kept : KeepsFlags handle) :
    KeepsFlags (intake d handle) := by
  intro s k h
  unfold intake
  split
  next => exact h
  next => exact kept _ k (by simpa using h)

theorem station_keepsFlags (d : DropIx) {handle : State → State} (kept : KeepsFlags handle) :
    KeepsFlags (station d handle) := by
  intro s k h
  have settled := State.settled_keeps_flag h
  unfold station
  split
  next => exact intake_keepsFlags d kept _ k settled
  next => exact settled

/-- Every request of a console keeps the flags. -/
theorem consoleEffect_keepsFlags (i : Instr) : KeepsFlags (consoleEffect i) := by
  unfold consoleEffect
  split
  case h_12 => exact fun _ _ h => h
  all_goals exact answered_keepsFlags _ _ fun _ _ h => by simp [h]

/-- Every request of a typist keeps the flags. -/
theorem typistEffect_keepsFlags (i : Instr) : KeepsFlags (typistEffect i) := by
  unfold typistEffect
  split
  case h_5 t x => exact fun _ _ h => doneRequest_keeps_flag h t x
  case h_6 t x => exact fun _ _ h => releaseRequest_keeps_flag h t x
  case h_11 => exact fun _ _ h => h
  all_goals exact answered_keepsFlags _ _ fun _ _ h => by simp [h]

theorem State.routed_keepsFlags (d : DropIx) (code : Nat) (ps : List Byte) :
    KeepsFlags fun s => s.routed d code ps := by
  intro s k h
  unfold State.routed
  repeat' split
  next => simp [h]
  next => simp [h]
  next i _ => exact consoleEffect_keepsFlags i s k h
  next => simp [h]
  next => simp [h]
  next i _ => exact typistEffect_keepsFlags i s k h

theorem State.requestTaken_keepsFlags (d : DropIx) (bytes : List Byte) :
    KeepsFlags fun s => s.requestTaken d bytes := by
  cases bytes with
  | nil => exact fun _ _ h => h
  | cons code ps => exact intake_keepsFlags d (State.routed_keepsFlags d code.toNat ps)

/-- Presence, the status block and the request of a good reply keep the flags (R151). -/
theorem State.goodReply_keepsFlags (d : DropIx) (r : Reply) : KeepsFlags fun s => s.goodReply d r :=
  fun _ k h => State.requestTaken_keepsFlags d r.request _ k (by simp [h])

theorem State.receive_keepsFlags (frame : List Byte) : KeepsFlags fun s => s.receive frame := by
  intro s k h
  dsimp only [State.receive, State.replied]
  repeat' split
  next => exact h
  next => simp [h]
  next r _ => simpa using State.goodReply_keepsFlags _ r s k h

/-- What a console or a typist asks under a request that the host has too keeps the flags where the work
does. -/
theorem asked_keepsFlags (a : Asker) (i : Instr) {work : State → Result × State}
    (kept : KeepsFlags fun s => (work s).2) : KeepsFlags (asked a i work) := by
  cases a with
  | host => exact host_keepsFlags i kept
  | console c => exact station_keepsFlags _ (answered_keepsFlags _ _ kept)
  | typist t => exact station_keepsFlags _ (answered_keepsFlags _ _ kept)

/-- Every command but RESET and CLEAR-EVENTS keeps the flags (R163). -/
theorem exec_keeps_flag (c : Instr) (running : c.isReset = false) (other : ∀ w, c ≠ .clearEvents w)
    {s : State} {k : Nat} (h : s.events.getLsbD k = true) :
    ∃ t, exec c s = .next t ∧ t.events.getLsbD k = true := by
  have settled := State.settled_keeps_flag h
  cases c
  case reset => exact nomatch running
  case clearEvents w => exact absurd rfl (other w)
  case officeTick => exact ⟨_, rfl, State.tick_keeps_flag (State.finishTick_keeps_flag settled)⟩
  case goodReply frame => exact ⟨_, rfl, State.receive_keepsFlags frame _ k settled⟩
  case offerTimerExpiry | typistGraceExpiry | consoleGraceExpiry | driftWindowCheck
      | auditCountdownExpiry | placementPass | pollRound | pollTransaction | replyMiss | requestFrame
      | spiRead =>
    exact ⟨_, rfl, by simp [settled]⟩
  case doneTake t x =>
    exact ⟨_, rfl, station_keepsFlags _ (typistEffect_keepsFlags (.doneTake t x)) s k h⟩
  case releaseTake t x =>
    exact ⟨_, rfl, station_keepsFlags _ (typistEffect_keepsFlags (.releaseTake t x)) s k h⟩
  case openTake | closeTake | rollTake | markTake | sealTake | unsealTake | locateMark | rushTake
      | signOn | signOff | checkpoint | raiseQuery | acceptOffer | declineOffer =>
    exact ⟨_, rfl, station_keepsFlags _ (answered_keepsFlags _ _ fun _ _ h => by simp [h]) s k h⟩
  case resolveQuery | listMarks | probeTake =>
    exact ⟨_, rfl, asked_keepsFlags _ _ (fun _ _ h => by simp [h]) s k h⟩
  case setClock | setParam | readParam | enableDrop | disableDrop | readDrop | setTypist | readTypist
      | setConsole | lockClearance | openSession | endSession | readSession | readTake | scanTakes
      | setDeadline | setClass | relevel | withdrawTake | requeueTake | certifyTake | retireTake
      | readMarks | readEvents | setMask | clearCounts =>
    exact ⟨_, rfl, host_keepsFlags _ (fun _ _ h => by simp [h]) s k h⟩

/-! ### The event flags and ATTN (R163, R164) -/

/-- A two-byte selection gives a position beyond the flags where it is 4000h or more (R164). -/
theorem beyondFlags_eq (w : Half) : beyondFlags w = decide (2 ^ 14 ≤ w.toNat) := by
  have shifted : w >>> 14 = 0#16 ↔ w.toNat < 2 ^ 14 := by
    rw [← BitVec.toNat_inj, BitVec.toNat_ushiftRight, Nat.shiftRight_eq_div_pow]
    simp
  rw [beyondFlags, Bool.eq_iff_iff, bne_iff_ne, decide_eq_true_iff, ← not_lt]
  exact not_congr shifted

theorem Event.bit_lt (e : Event) : e.bit < 14 := by
  cases e <;> decide

/-- Each of the 14 flag positions is the place of an event (10.4, R166). -/
theorem Event.exists_bit_eq : ∀ k : Fin 14, ∃ e : Event, e.bit = k
  | 0 => ⟨.returned, rfl⟩
  | 1 => ⟨.atRisk, rfl⟩
  | 2 => ⟨.late, rfl⟩
  | 3 => ⟨.rushWaiting, rfl⟩
  | 4 => ⟨.dropAbsent, rfl⟩
  | 5 => ⟨.typistLost, rfl⟩
  | 6 => ⟨.takeCutShort, rfl⟩
  | 7 => ⟨.consoleDrift, rfl⟩
  | 8 => ⟨.auditFail, rfl⟩
  | 9 => ⟨.markLost, rfl⟩
  | 10 => ⟨.queryRaised, rfl⟩
  | 11 => ⟨.overlong, rfl⟩
  | 12 => ⟨.directoryFull, rfl⟩
  | 13 => ⟨.supervisorOverrun, rfl⟩

/-- ATTN follows the unmasked flags (R163). -/
theorem State.attn_iff (s : State) :
    s.attn = true ↔ ∃ e : Event, s.flagSet e = true ∧ s.masks.getLsbD e.bit = false := by
  have unmasked_bit : s.attn = true ↔
      ∃ k < 14, s.events.getLsbD k = true ∧ s.masks.getLsbD k = false := by
    simp only [State.attn, bne_iff_ne, ne_eq, BitVec.eq_of_getLsbD_eq_iff, not_forall]
    simp [BitVec.getLsbD_and, BitVec.getLsbD_not, and_left_comm]
  rw [unmasked_bit]
  constructor
  · rintro ⟨k, lt, unmasked⟩
    obtain ⟨e, place⟩ := Event.exists_bit_eq ⟨k, lt⟩
    exact ⟨e, by simpa [State.flagSet, place] using unmasked⟩
  · rintro ⟨e, unmasked⟩
    exact ⟨e.bit, e.bit_lt, unmasked⟩

/-- Settles O4: the three requests run in the settled state, `exec_keeps_flag` over every command, and
`State.attn_iff`. -/
theorem eventFlags : Obligations.EventFlags := by
  refine ⟨fun s w => ⟨fun ready => ?read, fun ready => ?clear, fun ready => ?mask⟩,
    fun c s t e run running other set => ?sticky, State.attn_iff⟩
  case read => exact congrArg Host.Outcome.next (host_of_hostReady readEventsWork ready)
  case clear =>
    rw [← beyondFlags_eq]
    exact congrArg Host.Outcome.next (host_of_hostReady (clearEventsWork w) ready)
  case mask =>
    rw [← beyondFlags_eq]
    exact congrArg Host.Outcome.next (host_of_hostReady (setMaskWork w) ready)
  case sticky =>
    obtain ⟨t', run', kept⟩ := exec_keeps_flag c running other set
    obtain rfl : t' = t := Host.Outcome.next.inj (run'.symm.trans run)
    exact kept

end Sys2Proof.Machine
end
